-- ==== Sys2Proof/Word.lean ====
section
/-! DEFINITION. The widths of CBU: bytes, 16-bit fields, 29-bit identifiers, 4-bit boards and codes
(00_scope R11, R12). Every quantity is unsigned. -/

namespace Sys2Proof

/-- An 8-bit byte of a payload or of the image (20_memory R51). -/
abbrev Byte := BitVec 8

/-- A 16-bit quantity: LEN, CRC, OFFSET and the fields of START and STOP (00_scope R6). -/
abbrev Half := BitVec 16

/-- A 29-bit extended arbitration identifier (30_encoding R80). -/
abbrev CanId := BitVec 29

/-- A board address, 0 to 15 (10_state R22). -/
abbrev Board := BitVec 4

/-- The low four bits of an identifier: a command or report code (30_encoding R82). -/
abbrev Code := BitVec 4

end Sys2Proof
end

