-- ==== Sys2Proof/Config.lean ====
section
/-! DEFINITION. The constants the spec fixes (00_scope R6), the parameters it leaves to the model
(R7, R10; 46_reference_responder R286), and the free values: of registers that hold no specified value
(10_state R34, 93_implementation_defined U17), and of what the transport keeps (10_state R33). -/

namespace Sys2Proof

/-- PAD_POLICY (00_scope R7). -/
inductive PadPolicy where
  | smallestMultiple
  | literal
  deriving DecidableEq, Repr

/-- STATUS_POLICY of the reference responder (46_reference_responder R286). -/
inductive StatusPolicy where
  | alwaysSuccess
  | crcCheck
  deriving DecidableEq, Repr

/-- The parameters the model takes as arguments (00_scope R7, R10). -/
structure Params where
  padPolicy    : PadPolicy
  hasDiscovery : Bool
  deriving DecidableEq, Repr

namespace Config

/-- ID_BASE (R6). -/
def idBase : CanId := 0x1B007100#29

/-- The BASE field that every protocol identifier carries, `ID_BASE >> 8` (30_encoding R80). -/
def baseField : BitVec 21 := 0x1B0071#21

/-- CODE_PING, CODE_START, CODE_DATA, CODE_STOP and CODE_REPORT (R6). -/
def codePing : Code := 0
def codeStart : Code := 2
def codeData : Code := 3
def codeStop : Code := 4
def codeReport : Code := 5

/-- The report subcodes (R6). -/
def subPong : Byte := 0
def subReady : Byte := 1
def subReadyFinal : Byte := 2
def subDone : Byte := 3

/-- STATUS_SUCCESS (R6). -/
def statusSuccess : Byte := 1

/-- HEALTH_OK (R6). -/
def healthOk : Byte := 1

/-- CHUNK, the bytes of one DATA command (R6). -/
def chunk : Nat := 8

/-- REPORT_LEN, the bytes of every report (R6). -/
def reportLen : Nat := 8

/-- CRC_POLY, reflected (R6). -/
def crcPoly : Half := 0xA001#16

/-- CRC_INIT (R6). -/
def crcInit : Half := 0x0000#16

/-- The largest padded length START's 16-bit field can say (43_upload_sequencer R192). -/
def maxPadded : Nat := 65535

/-- The highest board address (R6, N_BOARDS = 16). -/
def lastBoard : Board := 15

/-- T_REPLY in milliseconds; no rule computes with it (R8). -/
def tReplyMs : Nat := 100

/-- BIT_RATE's default in bit/s; no rule reads it (R9). -/
def defaultBitRate : Nat := 250000

/-- The spec's default parameters (R7, R10). -/
def defaultParams : Params := { padPolicy := .smallestMultiple, hasDiscovery := true }

/-! The free values: after RELEASE the session registers are "unspecified: holds no value"
(10_state R34). Each constant has no body, so nothing can be proved of what a register then holds.
The argument is `State.freeCount`. Log entry 3. -/

opaque freeBoard : Nat → Board
opaque freeLen : Nat → Half
opaque freeCrc : Nat → Half
opaque freeOffset : Nat → Half
opaque freeImageNseg : Nat → Nat
opaque freeImageBase : Nat → Nat
opaque freeImageBytes : Nat → List Byte
opaque freeExpected : Nat → Byte
opaque freeActual : Nat → Byte
opaque freeStatus : Nat → Byte
opaque freeNrkind : Nat → BitVec 1
opaque freePresub : Nat → BitVec 1
opaque freeFstate : Nat → Fin 6

/-- Whether the transport still has a frame that reached CBU outside its present wait: "the model must
not assume either way" (10_state R33 item 2). Asked once for each such frame, at its own index. Log
entry 28. -/
opaque channelKeeps : Nat → Bool

end Config

end Sys2Proof
end

