-- ==== Sys2Proof/Syntax.lean ====
section
/-! DEFINITION. CAN frames and the eight frame kinds of spec/opcode_table.json (30_encoding R80 to
R89), which are CBU's instructions. -/

namespace Sys2Proof

/-- One frame of the channel: an identifier and its payload bytes, `data[0]` first. Its dlc is the
payload's length (00_scope R12, 60_exceptions R322). -/
structure Frame where
  id   : CanId
  data : List Byte
  deriving DecidableEq, Repr

/-- The payload length of a frame. -/
abbrev Frame.dlc (f : Frame) : Nat := f.data.length

/-- The bytes of a report beside its subcode `data[4]` (30_encoding R86). -/
structure ReportBody where
  vmaj   : Byte
  vmin   : Byte
  vpat   : Byte
  health : Byte
  status : Byte
  rsv6   : Byte
  rsv7   : Byte
  deriving DecidableEq, Repr

/-- One constructor per row of spec/opcode_table.json. -/
inductive Instr where
  /-- PING (45_frames R250). -/
  | ping (board : Board)
  /-- START with the padded image length (R251). -/
  | start (board : Board) (len : Half)
  /-- DATA with the bytes of one chunk (R252). -/
  | data (board : Board) (chunk : List Byte)
  /-- STOP with the CRC of the padded image (R253). -/
  | stop (board : Board) (crc : Half)
  /-- REPORT.PONG: subcode 0 (R256). -/
  | reportPong (board : Board) (body : ReportBody)
  /-- REPORT.READY: subcode 1 (R257). -/
  | reportReady (board : Board) (body : ReportBody)
  /-- REPORT.READY_FINAL: subcode 2 (R258). -/
  | reportReadyFinal (board : Board) (body : ReportBody)
  /-- REPORT.DONE: subcode 3 (R259). -/
  | reportDone (board : Board) (body : ReportBody)
  deriving DecidableEq, Repr

end Sys2Proof
end

