-- ==== Sys2Proof/WellFormed.lean ====
section
/-! DEFINITION. Well-formedness of frames and of instructions. -/

namespace Sys2Proof

/-- A CAN payload has 0 to 8 bytes (00_scope R12, 20_memory R55). -/
def Frame.wf (f : Frame) : Bool := decide (f.data.length ≤ 8)

/-- A DATA frame carries exactly 8 bytes (45_frames R252); the operands of every other row are
constrained by their types ("inputs are range-constrained by the type", 40_address_codec R127). -/
def Instr.wf : Instr → Bool
  | .ping _ => true
  | .start _ _ => true
  | .data _ chunk => decide (chunk.length = 8)
  | .stop _ _ => true
  | .reportPong _ _ => true
  | .reportReady _ _ => true
  | .reportReadyFinal _ _ => true
  | .reportDone _ _ => true

/-- Well-formed instructions. -/
abbrev Instr.WellFormed (i : Instr) : Prop := i.wf = true

end Sys2Proof
end

