-- ==== Sys2Proof/Decode.lean ====
section
/-! DEFINITION. The identifier codec IDC (40_address_codec), the frame builders (45_frames R250 to
R253, R260), the decoder of a frame into a row of the opcode table, the encoder, and the command
parser (R262). -/

namespace Sys2Proof

/-! ## The identifier codec -/

/-- ENCODE (40_address_codec R120). -/
def encodeId (board : Board) (code : Code) : CanId :=
  Config.idBase + (board.zeroExtend 29 <<< 4) + code.zeroExtend 29

/-- The codes the protocol defines (30_encoding R82). -/
def definedCode (code : Nat) : Bool :=
  code == 0 || code == 2 || code == 3 || code == 4 || code == 5

/-- ENCODE on natural arguments: `none` is the refusal of R127 outside the domain. -/
def encodeIdChecked (board code : Nat) : Option CanId :=
  if board ≤ 15 ∧ definedCode code = true then
    some (encodeId (BitVec.ofNat 4 board) (BitVec.ofNat 4 code))
  else none

/-- DECODE_CODE (40_address_codec R121). -/
def decodeCode (id : CanId) : Code := id.extractLsb' 0 4

/-- DECODE_BOARD (40_address_codec R125). -/
def decodeBoard (id : CanId) : Board := id.extractLsb' 4 4

/-- BASE_OK (40_address_codec R125). -/
def baseOk (id : CanId) : Bool := decide (id.extractLsb' 8 21 = Config.baseField)

/-! ## 16-bit payload fields (30_encoding R85, 20_memory R58) -/

/-- `v[7:0]`, the byte sent first. -/
def lo8 (v : Half) : Byte := v.extractLsb' 0 8

/-- `v[15:8]`, the byte sent second. -/
def hi8 (v : Half) : Byte := v.extractLsb' 8 8

/-- `data[0] + 256 * data[1]`. -/
def join16 (lo hi : Byte) : Half := BitVec.ofNat 16 (lo.toNat + 256 * hi.toNat)

/-! ## The builders (45_frames) -/

/-- The eight bytes of a report with this subcode, `data[0]` first (30_encoding R86). -/
def ReportBody.payload (b : ReportBody) (sub : Byte) : List Byte :=
  [b.vmaj, b.vmin, b.vpat, b.health, sub, b.status, b.rsv6, b.rsv7]

/-- BUILD_PING (R250). -/
def buildPing (board : Board) : Frame :=
  { id := encodeId board Config.codePing, data := [] }

/-- BUILD_START (R251). -/
def buildStart (board : Board) (len : Half) : Frame :=
  { id := encodeId board Config.codeStart, data := [lo8 len, hi8 len] }

/-- BUILD_DATA (R252). -/
def buildData (board : Board) (chunk : List Byte) : Frame :=
  { id := encodeId board Config.codeData, data := chunk }

/-- BUILD_STOP (R253). -/
def buildStop (board : Board) (crc : Half) : Frame :=
  { id := encodeId board Config.codeStop, data := [lo8 crc, hi8 crc] }

/-- BUILD_REPORT (R260). -/
def buildReport (board : Board) (data : List Byte) : Frame :=
  { id := encodeId board Config.codeReport, data := data }

/-! ## The decoder -/

/-- Why a frame is no row of the opcode table. -/
inductive Reject where
  /-- `id[28:8]` is not 0x1B0071 (30_encoding R105). -/
  | foreignBase
  /-- Code 1 or 6 to 15 (R100). -/
  | undefinedCode
  /-- A defined code with another payload length than its row's (R104). -/
  | wrongDlc
  /-- A report of 8 bytes whose subcode is 4 to 255 (R101). -/
  | undefinedSubcode
  deriving DecidableEq, Repr

/-- What the decoder answers. -/
inductive Decoded where
  | instr (i : Instr)
  | rejected (why : Reject)
  deriving DecidableEq, Repr

/-- The row of a report frame, by its subcode (30_encoding R87, R89). -/
def decodeReport (board : Board) (sub : Byte) (body : ReportBody) : Decoded :=
  if sub = Config.subPong then .instr (.reportPong board body)
  else if sub = Config.subReady then .instr (.reportReady board body)
  else if sub = Config.subReadyFinal then .instr (.reportReadyFinal board body)
  else if sub = Config.subDone then .instr (.reportDone board body)
  else .rejected .undefinedSubcode

/-- The row of a frame whose identifier carries this board and code (30_encoding R84, R86, R89). -/
def decodePayload (board : Board) (code : Code) (data : List Byte) : Decoded :=
  if code = Config.codePing then
    match data with
    | [] => .instr (.ping board)
    | _ => .rejected .wrongDlc
  else if code = Config.codeStart then
    match data with
    | [lo, hi] => .instr (.start board (join16 lo hi))
    | _ => .rejected .wrongDlc
  else if code = Config.codeData then
    if data.length = 8 then .instr (.data board data) else .rejected .wrongDlc
  else if code = Config.codeStop then
    match data with
    | [lo, hi] => .instr (.stop board (join16 lo hi))
    | _ => .rejected .wrongDlc
  else if code = Config.codeReport then
    match data with
    | [d0, d1, d2, d3, d4, d5, d6, d7] =>
      decodeReport board d4
        { vmaj := d0, vmin := d1, vpat := d2, health := d3, status := d5, rsv6 := d6, rsv7 := d7 }
    | _ => .rejected .wrongDlc
  else .rejected .undefinedCode

/-- The row of the opcode table that a frame is, total on every frame (30_encoding R89). -/
def decode (f : Frame) : Decoded :=
  if baseOk f.id = true then decodePayload (decodeBoard f.id) (decodeCode f.id) f.data
  else .rejected .foreignBase

/-- The payload length that R82 gives a code: what the channel delivers as the dlc of such a frame
(30_encoding R106). Undefined codes have none; 0 stands for them. -/
def dlcOfCode (code : Code) : Nat :=
  if code = Config.codeStart then 2
  else if code = Config.codeData then 8
  else if code = Config.codeStop then 2
  else if code = Config.codeReport then 8
  else 0

/-- `n` bytes of `w` from bit 0 up. -/
def bytesOfNat : Nat → Nat → List Byte
  | 0, _ => []
  | n + 1, w => BitVec.ofNat 8 w :: bytesOfNat n (w / 256)

/-- The frame whose bits are `w`: the identifier in bits 28 to 0, the payload byte `data[k]` in bits
39+8k to 32+8k, the dlc fixed by the code (30_encoding R106). Log entry 12. -/
def frameOfNat (w : Nat) : Frame :=
  let id : CanId := BitVec.ofNat 29 w
  { id := id, data := bytesOfNat (dlcOfCode (decodeCode id)) (w / 2 ^ 32) }

/-- The host's question: the row that the decoder reads from a table word of `nbits` bits. Bits 31 to
29 belong to no identifier: a word that sets one is refused. -/
def decodeTableWord (nbits w : Nat) : Option Instr :=
  let w := w % 2 ^ nbits
  if w % 2 ^ 32 < 2 ^ 29 then
    match decode (frameOfNat w) with
    | .instr i => some i
    | .rejected _ => none
  else none

/-! ## The encoder -/

/-- The frame of an instruction (45_frames R250 to R253, R260). -/
def encode : Instr → Frame
  | .ping board => buildPing board
  | .start board len => buildStart board len
  | .data board chunk => buildData board chunk
  | .stop board crc => buildStop board crc
  | .reportPong board body => buildReport board (body.payload Config.subPong)
  | .reportReady board body => buildReport board (body.payload Config.subReady)
  | .reportReadyFinal board body => buildReport board (body.payload Config.subReadyFinal)
  | .reportDone board body => buildReport board (body.payload Config.subDone)

/-! ## The command parser (45_frames R262) -/

/-- The verdicts of PARSE_COMMAND (R262). -/
inductive Command where
  | foreign
  | ping (board : Board)
  | start (board : Board) (len : Half)
  | data (board : Board) (chunk : List Byte)
  | stop (board : Board) (crc : Half)
  | notACommand (board : Board)
  | malformed (board : Board) (code : Code) (dlc : Nat)
  | undefined (board : Board) (code : Code)
  deriving DecidableEq, Repr

/-- PARSE_COMMAND (R262), the tests in the rule's order. -/
def parseCommand (f : Frame) : Command :=
  if baseOk f.id = true then
    let board := decodeBoard f.id
    let code := decodeCode f.id
    if code = Config.codePing ∧ f.dlc = 0 then .ping board
    else if code = Config.codeStart ∧ f.dlc = 2 then
      .start board (join16 (f.data.getD 0 0) (f.data.getD 1 0))
    else if code = Config.codeData ∧ f.dlc = 8 then .data board f.data
    else if code = Config.codeStop ∧ f.dlc = 2 then
      .stop board (join16 (f.data.getD 0 0) (f.data.getD 1 0))
    else if code = Config.codeReport then .notACommand board
    else if code = Config.codePing ∨ code = Config.codeStart ∨ code = Config.codeData
        ∨ code = Config.codeStop then .malformed board code f.dlc
    else .undefined board code
  else .foreign

end Sys2Proof
end

