-- ==== Sys2Proof/Machine/State.lean ====
section
/-! DEFINITION. The state of CBU and of what acts on it, as plain data: the session registers
(10_state R20 to R28), the discovery position (42_discovery R171, R175), the channel
(60_exceptions R322), the reference responders (46_reference_responder R281), the input events
(00_scope R15) and the record of what was visible (30_encoding R113). -/

namespace Sys2Proof.Machine

/-! ## The image space -/

/-- Byte-addressed contents: cells of strictly rising addresses, none equal to what an unlisted
address reads as. Log entry 15. -/
abbrev Memory := List Host.Cell

/-- The image record of the ImageSource (20_memory R50): `len` is the raw length L. -/
structure Image where
  nseg : Nat
  base : Nat
  len  : Nat
  mem  : Memory
  deriving DecidableEq, Repr

/-! ## The registers' types -/

/-- The values of STATE (10_state R21). -/
inductive SeqState where
  | idle
  | starting
  | transferring
  | finishing
  | succeeded
  | failed
  deriving DecidableEq, Repr

/-- The values of CAUSE (60_exceptions R300). -/
inductive Cause where
  | none
  | precondition
  | noReport
  | mismatch
  | targetFailure
  | malformedReport
  | aborted
  deriving DecidableEq, Repr

/-- A receive outcome (44_report_reader R230). -/
inductive RxOutcome where
  | none
  | frame (f : Frame)
  deriving DecidableEq, Repr

/-- A classification of SCAN (42_discovery R171). -/
inductive ScanClass where
  | ok
  | err
  | noResponse
  deriving DecidableEq, Repr

/-- The result of PING (42_discovery R175). `failNoReport` is FAIL(NO_REPORT) with RFD's diagnostic
kind, `failMalformed` is FAIL(MALFORMED_REPORT). -/
inductive PingResult where
  | pongInfo (major minor patch health : Byte) (healthOk : Bool) (diag0 diag1 : Byte)
  | failNoReport (kind : BitVec 1)
  | failMalformed
  deriving DecidableEq, Repr

/-- The result record of a DSQ operation (10_state R38). -/
inductive DsqResult where
  | scan (classes : List ScanClass)
  | ping (result : PingResult)
  deriving DecidableEq, Repr

/-- Where the discovery sequencer stands: no operation, the wait of SCAN for one board with the
classifications so far, or the wait of PING (42_discovery R171, R175). -/
inductive Dsq where
  | idle
  | scanning (board : Board) (classes : List ScanClass)
  | pinging (board : Board)
  deriving DecidableEq, Repr

/-! ## The environment -/

/-- RSTATE (46_reference_responder R281). -/
inductive RState where
  | idle
  | receiving
  | full
  deriving DecidableEq, Repr

/-- A reference responder: its parameters (46_reference_responder R283, R286) and registers (R281).
An environment model, not the real boot loader. Log entry 11. -/
structure Responder where
  me     : Board
  vmaj   : Byte
  vmin   : Byte
  vpat   : Byte
  health : Byte
  policy : StatusPolicy
  rstate : RState
  rlen   : Half
  rcount : Half
  rcrc   : Half
  deriving DecidableEq, Repr

/-- The node at which a frame arrives: CBU, or the targets. Log entry 6. -/
inductive Port where
  | host
  | target
  deriving DecidableEq, Repr

/-- The input events (00_scope R15): the operator's, the channel's answer to a wait, and, for the
environment, the opening of the channel (60_exceptions R322) and the arrival of a frame at the
targets (46_reference_responder R282). -/
inductive Event where
  | load (board : Nat) (image : Image)
  | scan
  | ping (board : Nat)
  | abort
  | release
  | openChannel (bitRate : Nat)
  | rx (o : RxOutcome)
  | deliver (f : Frame)
  deriving DecidableEq, Repr

/-- A line of the trace notation (30_encoding R113): an event, a frame CBU sent, a DSQ result. -/
inductive TraceItem where
  | event (e : Event)
  | sent (f : Frame)
  | result (r : DsqResult)
  deriving DecidableEq, Repr

/-! ## The state -/

/-- The whole machine. INVENTORY.md's State section gives each field's rule and reset value. -/
structure State where
  /-- STATE (10_state R21). -/
  state     : SeqState
  /-- BOARD (R22). -/
  board     : Board
  /-- LEN (R23). -/
  len       : Half
  /-- CRC (R24). -/
  crc       : Half
  /-- OFFSET (R25). -/
  offset    : Half
  /-- IMG (R26). -/
  img       : Image
  /-- CAUSE (R28). -/
  cause     : Cause
  /-- EXPECTED (R28). -/
  expected  : Byte
  /-- ACTUAL (R28). -/
  actual    : Byte
  /-- STATUS (R28). -/
  status    : Byte
  /-- NRKIND (R28). -/
  nrkind    : BitVec 1
  /-- PRESUB (R28). -/
  presub    : BitVec 1
  /-- FSTATE (R28). -/
  fstate    : SeqState
  /-- The discovery position (42_discovery R171, R175). -/
  dsq       : Dsq
  /-- The channel handle, open with a bit rate (60_exceptions R322). -/
  channel   : Option Nat
  /-- PAD_POLICY and HAS_DISCOVERY (00_scope R7, R10). -/
  params    : Params
  /-- The targets on the bus (46_reference_responder R281). -/
  targets   : List Responder
  /-- Frames CBU sent that have not reached the targets, oldest first. -/
  toTarget  : List Frame
  /-- Frames the targets sent since CBU last sent one: while CBU waits, those that reach it in this
  wait. Oldest first. -/
  toHost    : List Frame
  /-- Frames that reached CBU before its present wait and were read by none, oldest first. Whether the
  transport keeps one is free (10_state R33 item 2, log entry 28). -/
  unread    : List Frame
  /-- The model's own: the input events still to come (log entry 7). -/
  inputs    : List Event
  /-- The model's own: what was visible, oldest first (log entry 22). -/
  trace     : List TraceItem
  /-- The model's own: the node at which this step's frame arrives (log entry 6). -/
  port      : Port
  /-- The model's own: the index of the next free values (log entry 3). -/
  freeCount : Nat
  deriving DecidableEq, Repr

/-- Why the machine stops: each is an event for which the spec gives "no step"
(43_upload_sequencer R211, 93_implementation_defined U15), or a read that R54 does not define. All
are safe: the model claims nothing past them. -/
inductive Fault where
  /-- LOAD while STATE is not Idle or a DSQ operation runs (R211, 60_exceptions R324). Safe. -/
  | loadOutsideIdle
  /-- A receive outcome while neither sequencer waits (R211). Safe. -/
  | rxOutsideWait
  /-- ABORT while STATE is not a wait state (R211). Safe. -/
  | abortOutsideWait
  /-- RELEASE in a wait state (R210 has no such row). Safe. -/
  | releaseInWait
  /-- SCAN or PING while STATE is not Idle or a DSQ operation runs (R324). Safe. -/
  | discoveryOutsideIdle
  /-- A chunk read outside the padded image (20_memory R54): in no reachable state. Safe. -/
  | readPastImage
  deriving DecidableEq, Repr

/-- Inputs to which the model gives no meaning. All are safe. -/
inductive Refusal where
  /-- An instruction whose arm of `exec` has no meaning yet. Safe. -/
  | notModelled (mnemonic : String)
  /-- LOAD or PING with a board above 15 (43_upload_sequencer R192, 42_discovery R175). Safe. -/
  | boardOutOfRange
  /-- LOAD of an image whose padded length exceeds 65535 (R192). Safe. -/
  | imageTooLong
  /-- SCAN or PING with HAS_DISCOVERY false (00_scope R10). Safe. -/
  | noDiscovery
  /-- A frame of more than 8 payload bytes, which is no CAN frame (00_scope R12). Safe. -/
  | notACanFrame
  /-- An image whose cells are not canonical, which is no value of R50's record. Safe. -/
  | imageNotCanonical
  deriving DecidableEq, Repr

/-- The outcome of a step of this machine. -/
abbrev Out := Host.Outcome State Fault Refusal

/-- Hardware reset (10_state R34): STATE is Idle and CAUSE is NONE. Every other register is
unspecified there; the values below are log entries 2, 3, 4, 6, 8, 11 and 18. -/
def State.reset : State :=
  { state := .idle, board := 0, len := 0, crc := 0, offset := 0
    img := { nseg := 0, base := 0, len := 0, mem := [] }
    cause := .none, expected := 0, actual := 0, status := 0, nrkind := 0, presub := 0
    fstate := .idle, dsq := .idle, channel := none, params := Config.defaultParams
    targets := [], toTarget := [], toHost := [], unread := [], inputs := [], trace := []
    port := .host, freeCount := 0 }

end Sys2Proof.Machine
end

