-- ==== Sys2Proof/Machine/Checksum.lean ====
section
/-! DEFINITION. The CRC16 generator CRCU (41_checksum_engine). -/

namespace Sys2Proof.Machine

/-- One iteration of the loop of R140: the LSB is tested before the shift. -/
def crcShift (c : Half) : Half :=
  if c.getLsbD 0 = true then (c >>> 1) ^^^ Config.crcPoly else c >>> 1

/-- `n` iterations. -/
def crcShifts : Nat → Half → Half
  | 0, c => c
  | n + 1, c => crcShifts n (crcShift c)

/-- CRC_UPDATE (R140). The XOR of the byte is the spec's decision D1. Log entry 1. -/
def crcUpdate (crc : Half) (byte : Byte) : Half := crcShifts 8 (crc ^^^ byte.zeroExtend 16)

/-- CRC_INIT (R141). -/
def crcStart : Half := Config.crcInit

/-- CRC_OVER (R143): the left fold from `init`. -/
def crcOver (bytes : List Byte) (init : Half) : Half := bytes.foldl crcUpdate init

/-- One clock of the bit-serial register (R142) with data bit `d`. -/
def crcSerialBit (c : Half) (d : Bool) : Half :=
  if (c.getLsbD 0 ^^ d) = true then (c >>> 1) ^^^ Config.crcPoly else c >>> 1

/-- The bit-serial form over data bits `i`, `i+1`, …, `i+n-1` of the byte (R142). -/
def crcSerialFrom : Nat → Nat → Half → Byte → Half
  | 0, _, c, _ => c
  | n + 1, i, c, byte => crcSerialFrom n (i + 1) (crcSerialBit c (byte.getLsbD i)) byte

/-- The bit-serial form of CRC_UPDATE (R142). -/
def crcUpdateSerial (crc : Half) (byte : Byte) : Half := crcSerialFrom 8 0 crc byte

/-- The table `T[i]` of R149. -/
def crcTable (i : Byte) : Half := crcUpdate 0 i

/-- The table form of CRC_UPDATE (R149). -/
def crcUpdateTable (crc : Half) (byte : Byte) : Half :=
  (crc >>> 8) ^^^ crcTable ((crc ^^^ byte.zeroExtend 16).extractLsb' 0 8)

end Sys2Proof.Machine
end

