-- ==== Sys2Proof/Machine/Operands.lean ====
section
/-! DEFINITION. Operands: the codes of STATE and CAUSE (10_state R21, 60_exceptions R300), the bytes of
the padded image (20_memory R53, R54), the padded length (43_upload_sequencer R193) and the fields of a
report (45_frames R254). -/

namespace Sys2Proof.Machine

/-! ## The values of STATE and CAUSE -/

/-- The spec's 3-bit encoding of STATE (R21). -/
def SeqState.code : SeqState → BitVec 3
  | .idle => 0
  | .starting => 1
  | .transferring => 2
  | .finishing => 3
  | .succeeded => 4
  | .failed => 5

/-- The value of STATE whose code is a number below 6 (R21). -/
def SeqState.ofIndex (i : Fin 6) : SeqState :=
  if i.val = 0 then .idle
  else if i.val = 1 then .starting
  else if i.val = 2 then .transferring
  else if i.val = 3 then .finishing
  else if i.val = 4 then .succeeded
  else .failed

/-- The wait states: exactly one receive is outstanding (10_state R33). -/
def SeqState.isWait : SeqState → Bool
  | .starting => true
  | .transferring => true
  | .finishing => true
  | .idle => false
  | .succeeded => false
  | .failed => false

/-- The terminal states (43_upload_sequencer R216). -/
def SeqState.isTerminal : SeqState → Bool
  | .succeeded => true
  | .failed => true
  | .idle => false
  | .starting => false
  | .transferring => false
  | .finishing => false

/-- The spec's 3-bit cause codes (R300). -/
def Cause.code : Cause → BitVec 3
  | .none => 0
  | .precondition => 1
  | .noReport => 2
  | .mismatch => 3
  | .targetFailure => 4
  | .malformedReport => 5
  | .aborted => 6

/-! ## The canonical form of the image's memory (log entry 15) -/

/-- What an unlisted address reads as: the zero of a padding byte (20_memory R53). -/
def Memory.unlisted : Byte := 0

/-- The canonical form holds from address `lo` on. -/
def Memory.wfFrom : Nat → Memory → Bool
  | _, [] => true
  | lo, (a, b) :: rest => decide (lo ≤ a) && decide (b ≠ Memory.unlisted) && Memory.wfFrom (a + 1) rest

/-- The canonical form: addresses strictly rising and no cell equal to an unlisted one. -/
def Memory.wf (m : Memory) : Bool := Memory.wfFrom 0 m

/-- The image's bytes are in canonical form and defined only for addresses below L. -/
def Image.wf (i : Image) : Bool := i.mem.wf && i.mem.all (fun c => decide (c.1 < i.len))

/-! ## The image -/

/-- The byte at an address: an unlisted one reads as `Memory.unlisted`. -/
def Memory.read : Memory → Nat → Byte
  | [], _ => Memory.unlisted
  | (a, b) :: rest, at_ => if a = at_ then b else Memory.read rest at_

/-- The canonical memory that holds these bytes from an address on: the ImageSource's buffer. -/
def Memory.ofBytesFrom : Nat → List Byte → Memory
  | _, [] => []
  | a, b :: rest =>
    if b = Memory.unlisted then Memory.ofBytesFrom (a + 1) rest
    else (a, b) :: Memory.ofBytesFrom (a + 1) rest

/-- The image record of a buffer (20_memory R50). -/
def Image.ofBytes (nseg base : Nat) (bytes : List Byte) : Image :=
  { nseg := nseg, base := base, len := bytes.length, mem := Memory.ofBytesFrom 0 bytes }

/-- `P[a]` (20_memory R53): the image's byte below L, a zero above. -/
def Image.padded (i : Image) (a : Nat) : Byte := if a < i.len then i.mem.read a else 0x00

/-- `P[a], …, P[a+n-1]`. -/
def Image.paddedBytes (i : Image) : Nat → Nat → List Byte
  | _, 0 => []
  | a, n + 1 => i.padded a :: i.paddedBytes (a + 1) n

/-- MemRead(a, n) over the padded image of length `len`: defined only for `a + n ≤ len` (R54). -/
def memRead (i : Image) (len a n : Nat) : Option (List Byte) :=
  if a + n ≤ len then some (i.paddedBytes a n) else none

/-! ## Padding -/

/-- PADLEN (43_upload_sequencer R193). -/
def padLen (policy : PadPolicy) (l : Nat) : Nat :=
  match policy with
  | .smallestMultiple => (8 - l % 8) % 8
  | .literal => 8 - l % 8

/-- PADDED (R193). -/
def paddedLen (policy : PadPolicy) (l : Nat) : Nat := l + padLen policy l

/-! ## Report fields (45_frames R254); callers have checked that there are 8 bytes -/

/-- `data[k]`. -/
def byteAt (data : List Byte) (k : Nat) : Byte := data.getD k 0

/-- SUBCODE. -/
def reportSubcode (data : List Byte) : Byte := byteAt data 4

/-- STATUS, meaningful only when SUBCODE is 3. -/
def reportStatus (data : List Byte) : Byte := byteAt data 5

/-- VERSION: major, minor, patch. -/
def reportVersion (data : List Byte) : Byte × Byte × Byte :=
  (byteAt data 0, byteAt data 1, byteAt data 2)

/-- HEALTH. -/
def reportHealth (data : List Byte) : Byte := byteAt data 3

/-- DIAG. -/
def reportDiag (data : List Byte) : Byte × Byte := (byteAt data 6, byteAt data 7)

end Sys2Proof.Machine
end

