-- ==== Sys2Proof/Machine/Flags.lean ====
section
/-! DEFINITION. CBU has no arithmetic flags (10_state R28). What plays their part are the verdicts on
a receive outcome: the report filter RFD (44_report_reader R231), the tests of CHECK
(43_upload_sequencer R199), the expected subcode (R197), the scan classification
(42_discovery R172) and the result of PING (R175). -/

namespace Sys2Proof.Machine

/-- What RFD answers (44_report_reader R231). -/
inductive Filtered where
  | report (data : List Byte)
  | noReport (kind : BitVec 1)
  deriving DecidableEq, Repr

/-- RFD (R231): a frame arrived and its code is REPORT; nothing else is tested (R232). -/
def rfd : RxOutcome → Filtered
  | .none => .noReport 0
  | .frame f => if decodeCode f.id = Config.codeReport then .report f.data else .noReport 1

/-- The verdicts of CHECK (43_upload_sequencer R199). -/
inductive Verdict where
  | accepted (data : List Byte)
  | noReport (kind : BitVec 1)
  | malformed
  | mismatch (actual : Byte)
  deriving DecidableEq, Repr

/-- The tests of CHECK in their fixed order: filter, length, subcode (R199, 60_exceptions R311). -/
def checkReport (o : RxOutcome) (exp : Byte) : Verdict :=
  match rfd o with
  | .noReport kind => .noReport kind
  | .report data =>
    if data.length < 8 then .malformed
    else if reportSubcode data = exp then .accepted data
    else .mismatch (reportSubcode data)

/-- EXPECTED_SUB (R197), compared on natural numbers. -/
def expectedSub (offset len : Half) : Byte :=
  if offset.toNat + 8 = len.toNat then Config.subReadyFinal else Config.subReady

/-- SCAN_CLASSIFY (42_discovery R172): all 29 bits, then the length, then the subcode. -/
def scanClassify (board : Board) : RxOutcome → ScanClass
  | .none => .noResponse
  | .frame f =>
    if f.id = encodeId board Config.codeReport ∧ f.dlc = 8 ∧ reportSubcode f.data = Config.subPong
    then .ok else .err

/-- The result of PING on the outcome of its wait (42_discovery R175). -/
def pingResult (o : RxOutcome) : PingResult :=
  match rfd o with
  | .noReport kind => .failNoReport kind
  | .report data =>
    if data.length < 8 then .failMalformed
    else
      .pongInfo (reportVersion data).1 (reportVersion data).2.1 (reportVersion data).2.2
        (reportHealth data) (decide (reportHealth data = Config.healthOk))
        (reportDiag data).1 (reportDiag data).2

end Sys2Proof.Machine
end

