-- ==== Sys2Proof/Machine/Ops.lean ====
section
/-! DEFINITION. The named operations over the registers and the channel: Send, the trace, taking a
failure (60_exceptions R310) and the way back from one (43_upload_sequencer R218), CHECK, SEND_CHUNK
and ADVANCE (R199). -/

namespace Sys2Proof.Machine

/-! ## Visible actions -/

/-- Adds a line to the trace (30_encoding R113). -/
def State.log (t : TraceItem) (s : State) : State := { s with trace := s.trace ++ [t] }

/-- Send (60_exceptions R322): the frame is on the bus when the step ends and never fails to be. A new
wait begins with it (10_state R33 item 1), and what reached CBU before and was not read arrived outside
that wait. -/
def State.send (f : Frame) (s : State) : State :=
  { s with
    trace := s.trace ++ [.sent f]
    toTarget := s.toTarget ++ [f]
    toHost := []
    unread := s.unread ++ s.toHost }

/-- The node at which the frame of this step arrives. -/
def State.atPort (p : Port) (s : State) : State := { s with port := p }

/-- A sequencer waits for a receive outcome (10_state R33; 42_discovery R170). -/
def State.waiting (s : State) : Bool := s.state.isWait || decide (s.dsq ≠ .idle)

/-! ## Failure and release -/

/-- `raise Fail(cause)` (60_exceptions R310). -/
def State.raiseFail (c : Cause) (s : State) : State := { s with cause := c, state := .failed }

/-- `FSTATE <- STATE; raise Fail(cause)`, the form every raising rule has (43_upload_sequencer R191,
R198, R199, R217). -/
def State.failFrom (c : Cause) (s : State) : State :=
  State.raiseFail c { s with fstate := s.state }

/-- An image about which nothing can be proved but that it is an image. -/
def freeImage (n : Nat) : Image :=
  Image.ofBytes (Config.freeImageNseg n) (Config.freeImageBase n) (Config.freeImageBytes n)

/-- RELEASE in a terminal state (43_upload_sequencer R218, 10_state R34): Idle, NONE, and every other
session register unspecified. Log entry 3. -/
def State.discardSession (s : State) : State :=
  { s with
    state := .idle
    cause := .none
    board := Config.freeBoard s.freeCount
    len := Config.freeLen s.freeCount
    crc := Config.freeCrc s.freeCount
    offset := Config.freeOffset s.freeCount
    img := freeImage s.freeCount
    expected := Config.freeExpected s.freeCount
    actual := Config.freeActual s.freeCount
    status := Config.freeStatus s.freeCount
    nrkind := Config.freeNrkind s.freeCount
    presub := Config.freePresub s.freeCount
    fstate := SeqState.ofIndex (Config.freeFstate s.freeCount)
    freeCount := s.freeCount + 1 }

/-! ## The common procedures of the waits (43_upload_sequencer R199) -/

/-- The registers a failed CHECK writes. -/
def State.rejectReport (v : Verdict) (exp : Byte) (s : State) : State :=
  match v with
  | .accepted _ => s
  | .noReport kind => State.failFrom .noReport { s with nrkind := kind }
  | .malformed => State.failFrom .malformedReport s
  | .mismatch actual => State.failFrom .mismatch { s with expected := exp, actual := actual }

/-- CHECK(o, exp): the failure ends the step, and otherwise the rest of the rule runs on the bytes. -/
def State.check (o : RxOutcome) (exp : Byte) (s : State) (rest : List Byte → Out) : Out :=
  match checkReport o exp with
  | .accepted data => rest data
  | .noReport kind => .next (s.rejectReport (.noReport kind) exp)
  | .malformed => .next (s.rejectReport .malformed exp)
  | .mismatch actual => .next (s.rejectReport (.mismatch actual) exp)

/-- SEND_CHUNK: the fold comes before the send. `none` where R54 defines no read. -/
def State.sendChunk (s : State) : Option State :=
  match memRead s.img s.len.toNat s.offset.toNat 8 with
  | some chunk => some (State.send (buildData s.board chunk) { s with crc := crcOver chunk s.crc })
  | none => none

/-- ADVANCE: the next chunk, or STOP when OFFSET = LEN. -/
def State.advance (s : State) : Out :=
  if s.offset = s.len then
    .next { s.send (buildStop s.board s.crc) with state := .finishing }
  else
    match s.sendChunk with
    | some s' => .next { s' with state := .transferring }
    | none => .fault .readPastImage

end Sys2Proof.Machine
end

