-- ==== Sys2Proof/Machine/Discovery.lean ====
section
/-! DEFINITION. The discovery sequencer DSQ (42_discovery): SCAN and PING. -/

namespace Sys2Proof.Machine

/-- SCAN begins (R171): the PING of board 0. Only in Idle with no operation running
(60_exceptions R324), and only with HAS_DISCOVERY (00_scope R10). -/
def scan (s : State) : Out :=
  if s.params.hasDiscovery = false then .refused .noDiscovery
  else if s.state ≠ .idle ∨ s.dsq ≠ .idle then .fault .discoveryOutsideIdle
  else .next { State.send (buildPing 0) s with dsq := .scanning 0 [] }

/-- PING begins (R175). -/
def pingBoard (board : Nat) (s : State) : Out :=
  if s.params.hasDiscovery = false then .refused .noDiscovery
  else if s.state ≠ .idle ∨ s.dsq ≠ .idle then .fault .discoveryOutsideIdle
  else if board > 15 then .refused .boardOutOfRange
  else
    let b := BitVec.ofNat 4 board
    .next { State.send (buildPing b) s with dsq := .pinging b }

/-- One outcome of SCAN (R171): classify it, then the next board, or the result after board 15. -/
def rxScanning (board : Board) (classes : List ScanClass) (o : RxOutcome) (s : State) : Out :=
  let classes' := classes ++ [scanClassify board o]
  if board = Config.lastBoard then
    .next (State.log (.result (.scan classes')) { s with dsq := .idle })
  else
    .next { State.send (buildPing (board + 1)) s with dsq := .scanning (board + 1) classes' }

/-- The one outcome of PING (R175). -/
def rxPinging (o : RxOutcome) (s : State) : Out :=
  .next (State.log (.result (.ping (pingResult o))) { s with dsq := .idle })

/-- A receive outcome as DSQ handles it; with no operation running there is no step (R211). -/
def discoveryReceive (o : RxOutcome) (s : State) : Out :=
  match s.dsq with
  | .idle => .fault .rxOutsideWait
  | .scanning board classes => rxScanning board classes o s
  | .pinging _ => rxPinging o s

end Sys2Proof.Machine
end

