-- ==== Sys2Proof/Machine/Responder.lean ====
section
/-! DEFINITION. The reference responder (46_reference_responder R281 to R286), the environment model
of a compliant target. Log entry 11. -/

namespace Sys2Proof.Machine

/-- A responder that has received nothing: RSTATE is R_IDLE (R281). Its counters, its version and its
default policy are log entry 11's. -/
def Responder.fresh (me : Board) : Responder :=
  { me := me, vmaj := 0, vmin := 0, vpat := 0, health := 1, policy := .crcCheck,
    rstate := .idle, rlen := 0, rcount := 0, rcrc := 0 }

/-- A report of the responder with this subcode and status; every other byte is 0x00 (R286). -/
def Responder.report (r : Responder) (sub status : Byte) : Frame :=
  buildReport r.me [0, 0, 0, 0, sub, status, 0, 0]

/-- On PING (R283). -/
def Responder.onPing (r : Responder) : Responder × Option Frame :=
  (r, some (buildReport r.me [r.vmaj, r.vmin, r.vpat, r.health, 0, 0, 0, 0]))

/-- On START (R284); silent on a length that is no multiple of 8 (R285). That such a START leaves RSTATE,
RLEN, RCOUNT and RCRC as they are, in every RSTATE, is a DESIGN CHOICE: log entry 29. -/
def Responder.onStart (len : Half) (r : Responder) : Responder × Option Frame :=
  if len.toNat % 8 = 0 then
    ({ r with
       rlen := len
       rcount := 0
       rcrc := 0
       rstate := if len = 0 then .full else .receiving },
     some (r.report Config.subReady 0))
  else (r, none)

/-- On DATA (R285): silent outside R_RECEIVING. -/
def Responder.onData (chunk : List Byte) (r : Responder) : Responder × Option Frame :=
  match r.rstate with
  | .receiving =>
    let r' := { r with rcrc := crcOver chunk r.rcrc, rcount := r.rcount + 8 }
    if r'.rcount = r'.rlen then
      ({ r' with rstate := .full }, some (r.report Config.subReadyFinal 0))
    else (r', some (r.report Config.subReady 0))
  | .idle => (r, none)
  | .full => (r, none)

/-- The status S of R286. -/
def Responder.finalStatus (crc : Half) (r : Responder) : Byte :=
  match r.policy with
  | .alwaysSuccess => 1
  | .crcCheck => if crc = r.rcrc then 1 else 0

/-- On STOP (R286). That a STOP outside R_FULL leaves RSTATE, RLEN, RCOUNT and RCRC as they are, under
both policies, is a DESIGN CHOICE where the spec shows no registers: log entry 31. -/
def Responder.onStop (crc : Half) (r : Responder) : Responder × Option Frame :=
  match r.rstate with
  | .full => ({ r with rstate := .idle }, some (r.report Config.subDone (r.finalStatus crc)))
  | .idle | .receiving =>
    match r.policy with
    | .crcCheck => (r, some (r.report Config.subDone 0))
    | .alwaysSuccess => (r, none)

/-- The targets' reaction to a command for `board` (R282): only a responder with that address reacts,
and what it sends goes to CBU. Where several have that address, each reacts (91_not_in_source N24), and
their reports come in the order of `targets`: DESIGN CHOICE, log entry 30. -/
def State.targetsReact (board : Board) (react : Responder → Responder × Option Frame) (s : State) :
    State :=
  { s with
    targets := s.targets.map (fun r => if r.me = board then (react r).1 else r)
    toHost := s.toHost ++ s.targets.filterMap (fun r => if r.me = board then (react r).2 else none) }

/-- A frame reaches the targets (R282): what is no command to them has no effect. -/
def targetReceive (f : Frame) (s : State) : Out :=
  match parseCommand f with
  | .ping board => .next (s.targetsReact board Responder.onPing)
  | .start board len => .next (s.targetsReact board (Responder.onStart len))
  | .data board chunk => .next (s.targetsReact board (Responder.onData chunk))
  | .stop board crc => .next (s.targetsReact board (Responder.onStop crc))
  | .foreign => .next s
  | .notACommand _ => .next s
  | .malformed _ _ _ => .next s
  | .undefined _ _ => .next s

end Sys2Proof.Machine
end

