-- ==== Sys2Proof/Machine/Upload.lean ====
section
/-! DEFINITION. The upload sequencer USQ (43_upload_sequencer): LOAD, RX in the three wait states,
ABORT and RELEASE. -/

namespace Sys2Proof.Machine

/-- LOAD (R191, R192, R194), its tests in the order of 60_exceptions R311. -/
def load (board : Nat) (image : Image) (s : State) : Out :=
  if s.state ≠ .idle ∨ s.dsq ≠ .idle then .fault .loadOutsideIdle
  else if board > 15 then .refused .boardOutOfRange
  else if image.nseg ≠ 1 then .next (State.failFrom .precondition { s with presub := 0 })
  else if image.base ≠ 0 then .next (State.failFrom .precondition { s with presub := 1 })
  else if paddedLen s.params.padPolicy image.len > Config.maxPadded then .refused .imageTooLong
  else if image.wf = false then .refused .imageNotCanonical
  else
    let b := BitVec.ofNat 4 board
    let l := BitVec.ofNat 16 (paddedLen s.params.padPolicy image.len)
    .next
      { State.send (buildStart b l)
          { s with
            board := b
            img := image
            len := l
            crc := crcStart
            offset := 0
            cause := .none } with
        state := .starting }

/-- RX(o) in Starting (R195). -/
def rxStarting (o : RxOutcome) (s : State) : Out :=
  s.check o Config.subReady (fun _ => s.advance)

/-- RX(o) in Transferring (R196). -/
def rxTransferring (o : RxOutcome) (s : State) : Out :=
  s.check o (expectedSub s.offset s.len) (fun _ =>
    State.advance { s with offset := s.offset + 8 })

/-- RX(o) in Finishing (R198). -/
def rxFinishing (o : RxOutcome) (s : State) : Out :=
  s.check o Config.subDone (fun data =>
    let s' := { s with status := reportStatus data }
    if reportStatus data = Config.statusSuccess then .next { s' with state := .succeeded }
    else .next (s'.failFrom .targetFailure))

/-- RX(o) as USQ handles it; outside a wait there is no step (R211). -/
def uploadReceive (o : RxOutcome) (s : State) : Out :=
  match s.state with
  | .starting => rxStarting o s
  | .transferring => rxTransferring o s
  | .finishing => rxFinishing o s
  | .idle => .fault .rxOutsideWait
  | .succeeded => .fault .rxOutsideWait
  | .failed => .fault .rxOutsideWait

/-- ABORT (R217): nothing is sent, the outstanding receive is abandoned. What is in flight stays so;
whether the transport keeps it for a later wait is free (log entry 28). -/
def abort (s : State) : Out :=
  if s.state.isWait = true then .next (s.failFrom .aborted) else .fault .abortOutsideWait

/-- RELEASE (R218; rows T16 and T17 of R210). It also releases the channel (60_exceptions R322). What is
in flight stays so; whether the transport keeps it for a later wait is free (log entry 28). -/
def release (s : State) : Out :=
  if s.state.isTerminal = true then .next { s.discardSession with channel := none }
  else if s.state = .idle then .next { s with channel := none }
  else .fault .releaseInWait

end Sys2Proof.Machine
end

