-- ==== Sys2Proof/Machine/Receive.lean ====
section
/-! DEFINITION. The arrival of a receive outcome at CBU (44_report_reader R230, R237) and of a frame
at a node. -/

namespace Sys2Proof.Machine

/-- RX(o): the sequencer that waits consumes the outcome (44_report_reader R230, 60_exceptions R324).
Log entry 21. -/
def hostReceive (o : RxOutcome) (s : State) : Out :=
  if s.state.isWait = true then uploadReceive o s else discoveryReceive o s

/-- A frame that is no row of the opcode table arrives: CBU treats it as it treats any frame
(44_report_reader R231), the targets by the verdict of the parser (46_reference_responder R282). -/
def undecodedFrame (f : Frame) (s : State) : Out :=
  match s.port with
  | .host => hostReceive (.frame f) s
  | .target => targetReceive f s

end Sys2Proof.Machine
end

