-- ==== Sys2Proof/Machine/Command.lean ====
section
/-! DEFINITION. The command frames PING, START, DATA and STOP (45_frames R250 to R253). At the targets
the addressed responder acts on the command (46_reference_responder R282 to R286); at CBU a command
frame is the outcome of the current wait and is not a report (44_report_reader R231). -/

namespace Sys2Proof.Machine

/-- PING (R250, R283). -/
def execPing (board : Board) (s : State) : Out :=
  match s.port with
  | .target => .next (s.targetsReact board Responder.onPing)
  | .host => hostReceive (.frame (buildPing board)) s

/-- START (R251, R284). -/
def execStart (board : Board) (len : Half) (s : State) : Out :=
  match s.port with
  | .target => .next (s.targetsReact board (Responder.onStart len))
  | .host => hostReceive (.frame (buildStart board len)) s

/-- DATA (R252, R285). -/
def execData (board : Board) (chunk : List Byte) (s : State) : Out :=
  match s.port with
  | .target => .next (s.targetsReact board (Responder.onData chunk))
  | .host => hostReceive (.frame (buildData board chunk)) s

/-- STOP (R253, R286). -/
def execStop (board : Board) (crc : Half) (s : State) : Out :=
  match s.port with
  | .target => .next (s.targetsReact board (Responder.onStop crc))
  | .host => hostReceive (.frame (buildStop board crc)) s

end Sys2Proof.Machine
end

