-- ==== Sys2Proof/Machine/Report.lean ====
section
/-! DEFINITION. The report frames (45_frames R256 to R259). At CBU a report is the outcome of the
current wait; at the targets a report is no command and has no effect (46_reference_responder
R282). -/

namespace Sys2Proof.Machine

/-- REPORT.PONG (R256). -/
def execReportPong (board : Board) (body : ReportBody) (s : State) : Out :=
  match s.port with
  | .host => hostReceive (.frame (buildReport board (body.payload Config.subPong))) s
  | .target => .next s

/-- REPORT.READY (R257). -/
def execReportReady (board : Board) (body : ReportBody) (s : State) : Out :=
  match s.port with
  | .host => hostReceive (.frame (buildReport board (body.payload Config.subReady))) s
  | .target => .next s

/-- REPORT.READY_FINAL (R258). -/
def execReportReadyFinal (board : Board) (body : ReportBody) (s : State) : Out :=
  match s.port with
  | .host => hostReceive (.frame (buildReport board (body.payload Config.subReadyFinal))) s
  | .target => .next s

/-- REPORT.DONE (R259). -/
def execReportDone (board : Board) (body : ReportBody) (s : State) : Out :=
  match s.port with
  | .host => hostReceive (.frame (buildReport board (body.payload Config.subDone))) s
  | .target => .next s

end Sys2Proof.Machine
end

