-- ==== Sys2Proof/Machine/Dispatch.lean ====
section
/-! DEFINITION. One arm per row of spec/opcode_table.json. -/

namespace Sys2Proof.Machine

def exec (i : Instr) (s : State) : Host.Outcome State Fault Refusal :=
  match i with
  | .ping board => Sys2Proof.Machine.execPing board s
  | .start board len => Sys2Proof.Machine.execStart board len s
  | .data board chunk => Sys2Proof.Machine.execData board chunk s
  | .stop board crc => Sys2Proof.Machine.execStop board crc s
  | .reportPong board body => Sys2Proof.Machine.execReportPong board body s
  | .reportReady board body => Sys2Proof.Machine.execReportReady board body s
  | .reportReadyFinal board body => Sys2Proof.Machine.execReportReadyFinal board body s
  | .reportDone board body => Sys2Proof.Machine.execReportDone board body s

end Sys2Proof.Machine
end

