-- ==== Sys2Proof/Machine/Fetch.lean ====
section
/-! DEFINITION. Which event a step consumes, what an event that carries no instruction does, and how a
frame is placed as the next event. CBU fetches no instructions (10_state R27): its position advances
only on an input event (00_scope R15). Log entries 7, 8 and 28. -/

namespace Sys2Proof.Machine

/-- What the closed channel gives a wait (46_reference_responder R287), from these unread frames: the
oldest of them that the transport kept (free, 10_state R33 item 2; those it did not keep are gone), else
the oldest frame that reached CBU in this wait, else NONE (70_reset_and_hazards R366). -/
def State.channelOutcome (s : State) : List Frame → Nat → RxOutcome × State
  | f :: rest, n =>
    if Config.channelKeeps n = true then
      (.frame f, { s with unread := rest, freeCount := n + 1 })
    else State.channelOutcome s rest (n + 1)
  | [], n =>
    match s.toHost with
    | f :: rest => (.frame f, { s with unread := [], toHost := rest, freeCount := n })
    | [] => (.none, { s with unread := [], freeCount := n })

/-- The next event and the state without it: the oldest input; with no input left the closed channel
moves: a frame in flight reaches the targets, and then a wait gets its outcome. `none`: nothing
happens. -/
def State.nextEvent (s : State) : Option (Event × State) :=
  match s.inputs with
  | e :: rest => some (e, { s with inputs := rest })
  | [] =>
    match s.toTarget with
    | f :: rest => some (.deliver f, { s with toTarget := rest })
    | [] =>
      if s.waiting = true then
        let got := s.channelOutcome s.unread s.freeCount
        some (.rx got.1, got.2)
      else none

/-- What a step turns out to be: an instruction to execute, or an event already acted on. -/
inductive Fetched where
  | instr (i : Instr) (s : State)
  | acted (o : Out)

/-- A frame arrives at a node: a row of the opcode table is an instruction. -/
def fetchFrame (p : Port) (f : Frame) (s : State) : Fetched :=
  if f.wf = true then
    match decode f with
    | .instr i => .instr i (s.atPort p)
    | .rejected _ => .acted (undecodedFrame f (s.atPort p))
  else .acted (.refused .notACanFrame)

/-- One event (43_upload_sequencer R210; 42_discovery R171, R175; 60_exceptions R322). -/
def act (e : Event) (s : State) : Fetched :=
  match e with
  | .load board image => .acted (load board image s)
  | .scan => .acted (scan s)
  | .ping board => .acted (pingBoard board s)
  | .abort => .acted (abort s)
  | .release => .acted (release s)
  | .openChannel bitRate => .acted (.next { s with channel := some bitRate })
  | .rx .none => .acted (hostReceive .none s)
  | .rx (.frame f) => fetchFrame .host f s
  | .deliver f => fetchFrame .target f s

/-- The event of this step, entered in the trace and acted on. With no event the state stays. -/
def fetch (s : State) : Fetched :=
  match s.nextEvent with
  | none => .acted (.next s)
  | some (e, s') => act e (s'.log (.event e))

/-- The event that brings a frame to the node its row is directed to (opcode_table.json,
"direction"): a report to CBU, any other frame to the targets. -/
def arrival (f : Frame) : Event :=
  if decodeCode f.id = Config.codeReport then .rx (.frame f) else .deliver f

/-- `f` as the next event, with what its arrival takes: for a report a wait, which is that of PING
where none is open; for a command a target that listens at its address. Log entry 13. -/
def placeFrame (f : Frame) (s : State) : State :=
  let s := { s with inputs := arrival f :: s.inputs }
  if decodeCode f.id = Config.codeReport then
    if s.waiting = true then s else { s with dsq := .pinging (decodeBoard f.id) }
  else if s.targets.any (fun r => decide (r.me = decodeBoard f.id)) = true then s
  else { s with targets := s.targets ++ [Responder.fresh (decodeBoard f.id)] }

end Sys2Proof.Machine
end

