-- ==== Sys2Proof/Machine/Step.lean ====
section
/-! DEFINITION. One step: the next event, and, where it is the arrival of a row of the opcode table,
`exec` of that row (00_scope R15). -/

namespace Sys2Proof.Machine

/-- One step of the machine. -/
def step (s : State) : Host.Outcome State Fault Refusal :=
  match fetch s with
  | .instr i s' => exec i s'
  | .acted o => o

/-- The state whose very next step is the arrival of the frame with these bits, at the node its row is
directed to. Log entries 12 and 13. -/
def State.withFetchWord (s : State) (nbits w : Nat) : State :=
  placeFrame (frameOfNat (w % 2 ^ nbits)) s

end Sys2Proof.Machine
end

