-- ==== Sys2Proof/Safety.lean ====
section
/-! DEFINITION. The terms in which claims about CBU are stated: what is visible, the invariants of the
session (10_state R35), the sessions that LOAD admits, and the environments of 43_upload_sequencer
R220 and 46_reference_responder R287. -/

namespace Sys2Proof.Machine

/-! ## What is visible -/

/-- The frame of a trace line that records a send. -/
def TraceItem.sentFrame : TraceItem → Option Frame
  | .sent f => some f
  | .event _ => none
  | .result _ => none

/-- The result of a trace line that records one. -/
def TraceItem.dsqResult : TraceItem → Option DsqResult
  | .result r => some r
  | .event _ => none
  | .sent _ => none

/-- The frames CBU has sent, oldest first (20_memory R65). -/
def State.sent (s : State) : List Frame := s.trace.filterMap TraceItem.sentFrame

/-- The results of DSQ operations, oldest first (10_state R38). -/
def State.results (s : State) : List DsqResult := s.trace.filterMap TraceItem.dsqResult

/-- A trace line that records an input event. -/
def TraceItem.isEvent : TraceItem → Bool
  | .event _ => true
  | .sent _ => false
  | .result _ => false

/-- A step's outcome with the event lines left out of the trace: what remains shows the registers, the
frames sent and in flight, the results, and the reason of a stop, but not what the inputs were. -/
def withoutEvents : Out → Out
  | .next s => .next { s with trace := s.trace.filter (fun t => !t.isEvent) }
  | .fault r => .fault r
  | .refused r => .refused r

/-- A receive outcome of the channel: a frame has at most eight bytes (44_report_reader R230). -/
def RxOutcome.wf : RxOutcome → Bool
  | .none => true
  | .frame f => f.wf

/-! ## Invariants -/

/-- The registers of a session once its first chunk has been sent: LEN is the padded length of an
image of one segment at address 0. -/
def State.sessionImage (s : State) : Prop :=
  s.img.nseg = 1 ∧ s.img.base = 0 ∧ s.len.toNat = paddedLen s.params.padPolicy s.img.len

/-- The session registers as R35 (10_state) gives them for each value of STATE. -/
def State.sessionInv (s : State) : Prop :=
  match s.state with
  | .idle => True
  | .starting => s.sessionImage ∧ s.crc = 0 ∧ s.offset = 0
  | .transferring =>
    s.sessionImage ∧ s.offset.toNat < s.len.toNat ∧ s.offset.toNat % 8 = 0 ∧
      s.crc = crcOver (s.img.paddedBytes 0 (s.offset.toNat + 8)) 0
  | .finishing =>
    s.sessionImage ∧ s.offset = s.len ∧ s.crc = crcOver (s.img.paddedBytes 0 s.len.toNat) 0
  | .succeeded =>
    s.sessionImage ∧ s.offset = s.len ∧ s.crc = crcOver (s.img.paddedBytes 0 s.len.toNat) 0 ∧
      s.status = 1
  | .failed => True

/-- The machine's invariant: R35; CAUSE is NONE exactly outside Failed (R28); DSQ runs only in Idle
(R38); the image is in canonical form. -/
def State.Inv (s : State) : Prop :=
  s.sessionInv ∧ (s.cause = .none ↔ s.state ≠ .failed) ∧ (s.dsq ≠ .idle → s.state = .idle) ∧
    s.img.wf = true

/-- The registers of a reference responder (46_reference_responder R284, R285): while it receives,
whole chunks are counted and at least one is missing; when full, none is. -/
def Responder.inv (r : Responder) : Prop :=
  match r.rstate with
  | .idle => True
  | .receiving => r.rlen.toNat % 8 = 0 ∧ r.rcount.toNat % 8 = 0 ∧ r.rcount.toNat < r.rlen.toNat
  | .full => r.rlen.toNat % 8 = 0 ∧ r.rcount = r.rlen

/-! ## Sessions -/

/-- LOAD of this image has its START: the preconditions of R191 and the domain of R192
(43_upload_sequencer). -/
abbrev Admitted (board : Nat) (image : Image) (policy : PadPolicy) : Prop :=
  board ≤ 15 ∧ image.nseg = 1 ∧ image.base = 0 ∧ paddedLen policy image.len ≤ 65535 ∧
    image.wf = true

/-- USQ is Idle and no DSQ operation runs. -/
abbrev State.quiet (s : State) : Prop := s.state = .idle ∧ s.dsq = .idle

/-- The session fails on a cause past which nothing should be claimed (60_exceptions R305). -/
abbrev State.pastShortReport (s : State) : Prop := s.state = .failed ∧ s.cause = .malformedReport

/-- The bytes `P[0..len-1]` in chunks of eight, in order. -/
def Image.chunks (i : Image) (n : Nat) : List (List Byte) :=
  (List.range n).map (fun k => i.paddedBytes (8 * k) 8)

/-- The frames of a whole session over `n` chunks (20_memory R65 item 1). -/
def sessionFrames (board : Board) (image : Image) (n : Nat) : List Frame :=
  [buildStart board (BitVec.ofNat 16 (8 * n))]
    ++ (image.chunks n).map (buildData board)
    ++ [buildStop board (crcOver (image.paddedBytes 0 (8 * n)) 0)]

/-- The subcode of the reply to the `k`-th command of a session over `n` chunks: START is the 0th,
STOP the `n+1`-st (43_upload_sequencer R220). -/
def replySubcode (n k : Nat) : Byte :=
  if k = n + 1 then Config.subDone
  else if k = n ∧ k ≠ 0 then Config.subReadyFinal
  else Config.subReady

/-- `o` is a report of 8 bytes that carries the subcode the `k`-th wait expects and, for the last, the
status 1 (R220). -/
def isCompliant (n k : Nat) : RxOutcome → Bool
  | .none => false
  | .frame f =>
    decide (decodeCode f.id = Config.codeReport) && decide (f.data.length = 8)
      && decide (reportSubcode f.data = replySubcode n k)
      && (decide (k ≠ n + 1) || decide (reportStatus f.data = 1))

/-- The outcomes answer the waits from the `k`-th on as R220's target answers them. -/
def compliantFrom (n : Nat) : Nat → List RxOutcome → Bool
  | _, [] => true
  | k, o :: rest => isCompliant n k o && compliantFrom n (k + 1) rest

/-- The outcomes as R220's target gives them: one for each of the `n + 2` waits. -/
abbrev Compliant (n : Nat) (os : List RxOutcome) : Prop :=
  os.length = n + 2 ∧ compliantFrom n 0 os = true

end Sys2Proof.Machine
end

