-- ==== Sys2Proof/Certificates/Slice0/Obligations.lean ====
section
/-! DEFINITION. The statements about CBU. The full next state in a statement is its frame: what the
record does not name is unchanged, the image's every byte among it. Where a next state has sent a frame,
that replies which came before become unread, `toHost := []` and `unread := s.unread ++ s.toHost`, is
the model's choice (log entry 28). -/

open Sys2Proof Sys2Proof.Machine

/-! ## The identifier codec and the frames -/

/-- Every well-formed row of the opcode table, with every operand, is read back from its frame. -/
def Obligations.DecodeInvertsEncode : Prop :=
  ∀ i : Instr, i.WellFormed → decode (encode i) = .instr i

/-- A frame that is a row of the table is that row's frame and no other; so no two rows share a frame,
and the decoder invents no frame. -/
def Obligations.DecodedFrameIsItsRowsFrame : Prop :=
  ∀ (f : Frame) (i : Instr), decode f = .instr i → encode i = f ∧ i.WellFormed ∧ f.wf = true

/-- 40_address_codec R123. -/
def Obligations.CodeOfIdentifierIsTheCode : Prop :=
  ∀ (board : Board) (code : Code), decodeCode (encodeId board code) = code

/-- 40_address_codec R124: the pair is recovered, so identifiers never collide. -/
def Obligations.IdentifiersNeverCollide : Prop :=
  ∀ (b b' : Board) (c c' : Code),
    (encodeId b c = encodeId b' c' → b = b' ∧ c = c') ∧
      (encodeId b c).extractLsb' 4 4 = b ∧ (encodeId b c).extractLsb' 0 4 = c

/-- 40_address_codec R120 and R127: the formula inside the domain, a refusal outside. -/
def Obligations.EncodeComputesTheFormulaOrRefuses : Prop :=
  ∀ board code : Nat,
    (board ≤ 15 → (code = 0 ∨ 2 ≤ code ∧ code ≤ 5) →
      ∃ id, encodeIdChecked board code = some id ∧ id.toNat = 0x1B007100 + 16 * board + code) ∧
    (board > 15 ∨ code = 1 ∨ code > 5 → encodeIdChecked board code = none)

/-- 30_encoding R84 with 45_frames R250 to R253: the identifiers as numbers, the payloads as numbers. -/
def Obligations.CommandFramesAreLaidOut : Prop :=
  ∀ (board : Board) (v : Half) (chunk : List Byte),
    (encode (.ping board)).id.toNat = 0x1B007100 + 16 * board.toNat ∧
    (encode (.ping board)).data = [] ∧
    (encode (.start board v)).id.toNat = 0x1B007102 + 16 * board.toNat ∧
    ((encode (.start board v)).data.map BitVec.toNat) = [v.toNat % 256, v.toNat / 256] ∧
    (encode (.data board chunk)).id.toNat = 0x1B007103 + 16 * board.toNat ∧
    (encode (.data board chunk)).data = chunk ∧
    (encode (.stop board v)).id.toNat = 0x1B007104 + 16 * board.toNat ∧
    ((encode (.stop board v)).data.map BitVec.toNat) = [v.toNat % 256, v.toNat / 256]

/-- 30_encoding R85, 45_frames R261. -/
def Obligations.LittleEndianFieldRoundTrip : Prop :=
  ∀ v : Half, join16 (lo8 v) (hi8 v) = v ∧ v.toNat = (lo8 v).toNat + 256 * (hi8 v).toNat

/-- 45_frames R262: the parser gives back what the builders were given, and calls no report a
command. -/
def Obligations.ParserInvertsBuilders : Prop :=
  ∀ (board : Board) (v : Half) (chunk data : List Byte), chunk.length = 8 →
    parseCommand (buildPing board) = .ping board ∧
    parseCommand (buildStart board v) = .start board v ∧
    parseCommand (buildData board chunk) = .data board chunk ∧
    parseCommand (buildStop board v) = .stop board v ∧
    parseCommand (buildReport board data) = .notACommand board

/-- A few frames written out from 95_test_vectors section 5 are the rows they stand for, and the
reserved ones of sections 5.3 and 6 are none. -/
def Obligations.WrittenOutFramesDecode : Prop :=
  decode ⟨0x1B007170#29, []⟩ = .instr (.ping 7) ∧
  decode ⟨0x1B007192#29, [0x38, 0x12]⟩ = .instr (.start 9 0x1238) ∧
  decode ⟨0x1B007133#29, [1, 2, 3, 4, 5, 6, 7, 8]⟩ = .instr (.data 3 [1, 2, 3, 4, 5, 6, 7, 8]) ∧
  decode ⟨0x1B007154#29, [0x3D, 0xBB]⟩ = .instr (.stop 5 0xBB3D) ∧
  decode ⟨0x1B007175#29, [1, 4, 2, 1, 0, 0, 0xAA, 0x55]⟩ =
    .instr (.reportPong 7 ⟨1, 4, 2, 1, 0, 0xAA, 0x55⟩) ∧
  decode ⟨0x1B007135#29, [0, 0, 0, 0, 3, 1, 0, 0]⟩ = .instr (.reportDone 3 ⟨0, 0, 0, 0, 1, 0, 0⟩) ∧
  decode ⟨0x1B007131#29, []⟩ = .rejected .undefinedCode ∧
  decode ⟨0x1B007132#29, [0x10, 0, 0]⟩ = .rejected .wrongDlc ∧
  decode ⟨0x1B007232#29, [0x10, 0]⟩ = .rejected .foreignBase ∧
  decode ⟨0x1B007135#29, [0, 0, 0, 0, 4, 0, 0, 0]⟩ = .rejected .undefinedSubcode

/-! ## The checksum -/

/-- 41_checksum_engine R144. -/
def Obligations.ChecksumFoldsAcrossChunks : Prop :=
  ∀ (u v : List Byte) (init : Half), crcOver (u ++ v) init = crcOver v (crcOver u init)

/-- 41_checksum_engine R142: the bit-serial register computes CRC_UPDATE. -/
def Obligations.SerialChecksumAgrees : Prop :=
  ∀ (crc : Half) (byte : Byte), crcUpdateSerial crc byte = crcUpdate crc byte

/-- 41_checksum_engine R149: the table form computes CRC_UPDATE. -/
def Obligations.TableChecksumAgrees : Prop :=
  ∀ (crc : Half) (byte : Byte), crcUpdateTable crc byte = crcUpdate crc byte

/-- 41_checksum_engine R140, corner cases: for a fixed byte the update loses nothing. -/
def Obligations.ChecksumUpdateIsInjective : Prop :=
  ∀ (crc crc' : Half) (byte : Byte), crcUpdate crc byte = crcUpdate crc' byte → crc = crc'

/-- 41_checksum_engine R148: linearity with initial value 0. -/
def Obligations.ChecksumIsLinear : Prop :=
  ∀ a b : List Byte, a.length = b.length →
    crcOver (List.zipWith (· ^^^ ·) a b) 0 = crcOver a 0 ^^^ crcOver b 0

/-- 41_checksum_engine R148 (i) and (ii): leading zeros are invisible. -/
def Obligations.ChecksumIgnoresLeadingZeros : Prop :=
  ∀ (n : Nat) (a : List Byte),
    crcOver (List.replicate n 0 ++ a) 0 = crcOver a 0 ∧ crcOver (List.replicate n 0) 0 = 0

/-! ## Padding and the image -/

/-- 43_upload_sequencer R193, both policies. -/
def Obligations.PaddingFollowsThePolicy : Prop :=
  ∀ l : Nat,
    paddedLen .smallestMultiple l % 8 = 0 ∧ l ≤ paddedLen .smallestMultiple l ∧
    (∀ m, m % 8 = 0 → l ≤ m → paddedLen .smallestMultiple l ≤ m) ∧
    (l % 8 ≠ 0 → paddedLen .literal l = paddedLen .smallestMultiple l) ∧
    (l % 8 = 0 → paddedLen .literal l = l + 8)

/-- 20_memory R53: the image of a buffer reads as the buffer's bytes, and as zero above them. The
cells are the model's form of it (log entry 15). -/
def Obligations.PaddedImageReadsTheBufferThenZeros : Prop :=
  ∀ (nseg base a : Nat) (bytes : List Byte),
    (Image.ofBytes nseg base bytes).padded a = bytes.getD a 0x00

/-- Two canonical images of equal length that read alike at every address are equal: the form is
canonical (log entry 15). -/
def Obligations.CanonicalImagesReadAlikeAreEqual : Prop :=
  ∀ i j : Image, i.wf = true → j.wf = true → i.nseg = j.nseg → i.base = j.base →
    i.len = j.len → (∀ a, i.padded a = j.padded a) → i = j

/-! ## Reset and the operator's events -/

/-- 10_state R34: STATE and CAUSE at reset; with them the machine's invariant holds. The other
registers' values are the model's choice (log entry 2) and are not stated. -/
def Obligations.ResetIsIdleAndMeetsTheInvariant : Prop :=
  State.reset.state = .idle ∧ State.reset.cause = .none ∧ State.reset.Inv

/-- 43_upload_sequencer R194 (row T5 of R210). The failure information, which has no specified value
during a session (10_state R30, log entry 26), is left open. -/
def Obligations.LoadCreatesTheSession : Prop :=
  ∀ (s : State) (board : Nat) (image : Image) (rest : List Event),
    s.inputs = .load board image :: rest → s.quiet → Admitted board image s.params.padPolicy →
      ∃ expected actual status nrkind presub fstate, step s = .next
        { s with
          inputs := rest
          board := BitVec.ofNat 4 board
          img := image
          len := BitVec.ofNat 16 (paddedLen s.params.padPolicy image.len)
          crc := 0x0000
          offset := 0
          cause := .none
          state := .starting
          expected := expected, actual := actual, status := status
          nrkind := nrkind, presub := presub, fstate := fstate
          trace := s.trace ++ [.event (.load board image),
            .sent (buildStart (BitVec.ofNat 4 board)
              (BitVec.ofNat 16 (paddedLen s.params.padPolicy image.len)))]
          toTarget := s.toTarget ++ [buildStart (BitVec.ofNat 4 board)
            (BitVec.ofNat 16 (paddedLen s.params.padPolicy image.len))]
          toHost := [], unread := s.unread ++ s.toHost }

/-- 43_upload_sequencer R191 (rows T2 and T3 of R210). The diagnostic PRESUB, and the registers that
have no specified value after this failure (60_exceptions R310, log entry 26), are left open. -/
def Obligations.LoadFailsItsPreconditionsSilently : Prop :=
  ∀ (s : State) (board : Nat) (image : Image) (rest : List Event),
    s.inputs = .load board image :: rest → s.quiet → board ≤ 15 →
      (image.nseg ≠ 1 ∨ image.base ≠ 0) →
        ∃ presub b len crc offset img, step s = .next
          { s with
            inputs := rest, state := .failed, cause := .precondition, fstate := .idle
            presub := presub, board := b, len := len, crc := crc, offset := offset, img := img
            trace := s.trace ++ [.event (.load board image)] }

/-- 43_upload_sequencer R192 (rows T1 and T4 of R210). -/
def Obligations.LoadOutsideItsDomainIsRefused : Prop :=
  ∀ (s : State) (board : Nat) (image : Image) (rest : List Event),
    s.inputs = .load board image :: rest → s.quiet →
      (board > 15 → step s = .refused .boardOutOfRange) ∧
      (board ≤ 15 → image.nseg = 1 → image.base = 0 →
        paddedLen s.params.padPolicy image.len > 65535 → step s = .refused .imageTooLong)

/-- 43_upload_sequencer R211, 60_exceptions R324: the pairs of state and event that have no step stop
the model: LOAD outside Idle or during a discovery operation, ABORT outside a wait state, any outcome
and any row that arrives at CBU while nothing waits, RELEASE in a wait state (log entries 9, 27). -/
def Obligations.EventsOutsideTheTableHaveNoStep : Prop :=
  ∀ (s : State) (board : Nat) (image : Image) (o : RxOutcome) (i : Instr) (rest : List Event),
    (s.inputs = .load board image :: rest → (s.state ≠ .idle ∨ s.dsq ≠ .idle) →
      step s = .fault .loadOutsideIdle) ∧
    (s.inputs = .abort :: rest → s.state.isWait = false → step s = .fault .abortOutsideWait) ∧
    (s.inputs = .rx o :: rest → o.wf = true → s.state.isWait = false → s.dsq = .idle →
      step s = .fault .rxOutsideWait) ∧
    (s.port = .host → s.state.isWait = false → s.dsq = .idle →
      exec i s = .fault .rxOutsideWait) ∧
    (s.inputs = .release :: rest → s.state.isWait = true → step s = .fault .releaseInWait)

/-- 43_upload_sequencer R217 (row T15 of R210). What is in flight stays so (log entry
28). -/
def Obligations.AbortFailsTheSession : Prop :=
  ∀ (s : State) (rest : List Event),
    s.inputs = .abort :: rest → s.state.isWait = true →
      step s = .next
        { s with
          inputs := rest, state := .failed, cause := .aborted, fstate := s.state
          trace := s.trace ++ [.event .abort] }

/-- 43_upload_sequencer R218 (rows T16 and T17 of R210): nothing is stated of the unspecified
registers; the rest of the machine is unchanged but for the channel, which is released. Three points
are the model's own: the channel's release (log entry 18), that a SCAN or PING under way goes on after
a RELEASE in Idle (log entry 25), and that what is in flight or unread stays so, of which the transport
may keep any part for a later wait (log entry 28). -/
def Obligations.ReleaseReturnsToIdle : Prop :=
  ∀ (s : State) (rest : List Event), s.inputs = .release :: rest →
    (s.state.isTerminal = true →
      ∃ t, step s = .next t ∧ t.state = .idle ∧ t.cause = .none ∧ t.channel = none ∧
        t.trace = s.trace ++ [.event .release] ∧ t.toTarget = s.toTarget ∧ t.toHost = s.toHost ∧
        t.unread = s.unread ∧
        t.targets = s.targets ∧ t.params = s.params ∧ t.dsq = s.dsq ∧ t.inputs = rest) ∧
    (s.state = .idle →
      step s = .next
        { s with inputs := rest, channel := none, trace := s.trace ++ [.event .release] })

/-- 60_exceptions R322, 70_reset_and_hazards R350: opening the channel gives CBU its handle and changes
nothing else. That it is accepted in every state and needed by no operation is log entry 18. -/
def Obligations.OpeningGivesTheChannelHandle : Prop :=
  ∀ (s : State) (bitRate : Nat) (rest : List Event), s.inputs = .openChannel bitRate :: rest →
    step s = .next
      { s with
        inputs := rest, channel := some bitRate
        trace := s.trace ++ [.event (.openChannel bitRate)] }

/-! ## Reports at CBU: the upload sequencer -/

/-- 43_upload_sequencer R195 (row T9 of R210): READY in Starting sends the chunk at OFFSET, folded
into CRC first. -/
def Obligations.ReadyInStartingSendsTheFirstChunk : Prop :=
  ∀ (board : Board) (body : ReportBody) (s : State),
    s.port = .host → s.state = .starting → s.offset.toNat + 8 ≤ s.len.toNat →
      exec (.reportReady board body) s = .next
        { s with
          state := .transferring
          crc := crcOver (s.img.paddedBytes s.offset.toNat 8) s.crc
          trace := s.trace ++ [.sent (buildData s.board (s.img.paddedBytes s.offset.toNat 8))]
          toTarget := s.toTarget ++ [buildData s.board (s.img.paddedBytes s.offset.toNat 8)]
          toHost := [], unread := s.unread ++ s.toHost }

/-- 43_upload_sequencer R195 (row T10 of R210): with nothing to send, READY in Starting sends STOP. -/
def Obligations.ReadyForAnEmptyImageSendsStop : Prop :=
  ∀ (board : Board) (body : ReportBody) (s : State),
    s.port = .host → s.state = .starting → s.offset = s.len →
      exec (.reportReady board body) s = .next
        { s with
          state := .finishing
          trace := s.trace ++ [.sent (buildStop s.board s.crc)]
          toTarget := s.toTarget ++ [buildStop s.board s.crc]
          toHost := [], unread := s.unread ++ s.toHost }

/-- 43_upload_sequencer R196 (row T11 of R210): READY to a chunk that is not the last sends the next
one. -/
def Obligations.ReadyInTransferringSendsTheNextChunk : Prop :=
  ∀ (board : Board) (body : ReportBody) (s : State),
    s.port = .host → s.state = .transferring → s.offset.toNat + 16 ≤ s.len.toNat →
      exec (.reportReady board body) s = .next
        { s with
          offset := s.offset + 8
          crc := crcOver (s.img.paddedBytes (s.offset.toNat + 8) 8) s.crc
          trace := s.trace ++
            [.sent (buildData s.board (s.img.paddedBytes (s.offset.toNat + 8) 8))]
          toTarget := s.toTarget ++ [buildData s.board (s.img.paddedBytes (s.offset.toNat + 8) 8)]
          toHost := [], unread := s.unread ++ s.toHost }

/-- 43_upload_sequencer R196 (row T12 of R210): READY_FINAL to the last chunk sends STOP with the
CRC. -/
def Obligations.ReadyFinalToTheLastChunkSendsStop : Prop :=
  ∀ (board : Board) (body : ReportBody) (s : State),
    s.port = .host → s.state = .transferring → s.offset.toNat + 8 = s.len.toNat →
      exec (.reportReadyFinal board body) s = .next
        { s with
          state := .finishing
          offset := s.len
          trace := s.trace ++ [.sent (buildStop s.board s.crc)]
          toTarget := s.toTarget ++ [buildStop s.board s.crc]
          toHost := [], unread := s.unread ++ s.toHost }

/-- 43_upload_sequencer R198 (rows T13 and T14 of R210): DONE in Finishing ends the session by its
status. -/
def Obligations.DoneInFinishingEndsTheSession : Prop :=
  ∀ (board : Board) (body : ReportBody) (s : State),
    s.port = .host → s.state = .finishing →
      (body.status = 1 →
        exec (.reportDone board body) s = .next { s with status := 1, state := .succeeded }) ∧
      (body.status ≠ 1 →
        exec (.reportDone board body) s = .next
          { s with
            status := body.status, state := .failed, cause := .targetFailure
            fstate := .finishing })

/-- 43_upload_sequencer R199 (row T8 of R210): in a wait of USQ a report with another subcode than the
expected one fails the session: each row of the table with another subcode, so PONG always (45_frames
R256), and any frame of eight bytes whose code is 5, whatever its base, its board and its subcode
(30_encoding R101, 44_report_reader R232). -/
def Obligations.UnexpectedSubcodeIsAMismatch : Prop :=
  ∀ (s : State) (exp : Byte),
    (s.state = .starting ∧ exp = 1 ∨
      s.state = .transferring ∧ exp = (if s.offset.toNat + 8 = s.len.toNat then 2 else 1) ∨
      s.state = .finishing ∧ exp = 3) →
    (∀ (i : Instr) (board : Board) (body : ReportBody) (sub : Byte), s.port = .host →
      (i = .reportPong board body ∧ sub = 0 ∨ i = .reportReady board body ∧ sub = 1 ∨
        i = .reportReadyFinal board body ∧ sub = 2 ∨ i = .reportDone board body ∧ sub = 3) →
      sub ≠ exp →
        exec i s = .next
          { s with
            state := .failed, cause := .mismatch, fstate := s.state
            expected := exp, actual := sub }) ∧
    (∀ (id : CanId) (d0 d1 d2 d3 sub d5 d6 d7 : Byte) (rest : List Event),
      s.inputs = .rx (.frame ⟨id, [d0, d1, d2, d3, sub, d5, d6, d7]⟩) :: rest →
      id.toNat % 16 = 5 → sub ≠ exp →
        step s = .next
          { s with
            inputs := rest, state := .failed, cause := .mismatch, fstate := s.state
            expected := exp, actual := sub, port := .host
            trace := s.trace ++
              [.event (.rx (.frame ⟨id, [d0, d1, d2, d3, sub, d5, d6, d7]⟩))] })

/-- 44_report_reader R231 and 43_upload_sequencer R199 (row T6 of R210): a command frame that CBU
receives in a wait of USQ is no report, nor is any other frame whose code is not 5, be it a row of the
table or not (30_encoding R100, R105). The diagnostic NRKIND is left open. -/
def Obligations.CommandFrameIsNoReportToAnUpload : Prop :=
  ∀ s : State, s.state.isWait = true →
    (∀ (i : Instr) (board : Board) (v : Half) (chunk : List Byte),
      (i = .ping board ∨ i = .start board v ∨ i = .data board chunk ∨ i = .stop board v) →
      s.port = .host →
        ∃ k, exec i s = .next
          { s with state := .failed, cause := .noReport, fstate := s.state, nrkind := k }) ∧
    (∀ (f : Frame) (rest : List Event), s.inputs = .rx (.frame f) :: rest →
      f.data.length ≤ 8 → f.id.toNat % 16 ≠ 5 →
        ∃ k, step s = .next
          { s with
            inputs := rest, state := .failed, cause := .noReport, fstate := s.state, nrkind := k
            port := .host, trace := s.trace ++ [.event (.rx (.frame f))] })

/-- 43_upload_sequencer R199 (row T6 of R210): a wait that ends with nothing fails the session. -/
def Obligations.TimeoutFailsTheSession : Prop :=
  ∀ (s : State) (rest : List Event),
    s.inputs = .rx .none :: rest → s.state.isWait = true →
      ∃ k, step s = .next
        { s with
          inputs := rest, state := .failed, cause := .noReport, fstate := s.state, nrkind := k
          trace := s.trace ++ [.event (.rx .none)] }

/-- 44_report_reader R236 (row T7 of R210): a report of fewer than eight bytes fails the session and
sends nothing. Nothing is claimed past it (60_exceptions R305). -/
def Obligations.ShortReportFailsTheSession : Prop :=
  ∀ (s : State) (f : Frame) (rest : List Event),
    s.inputs = .rx (.frame f) :: rest → s.state.isWait = true →
      decodeCode f.id = 5 → f.data.length < 8 →
        step s = .next
          { s with
            inputs := rest, state := .failed, cause := .malformedReport, fstate := s.state
            port := .host, trace := s.trace ++ [.event (.rx (.frame f))] }

/-- 44_report_reader R232: while USQ or PING waits, two frames with the code REPORT and the same bytes
have the same effect, PING's result and the frames sent included, whatever their senders' boards and
bases. -/
def Obligations.FilterIsBlindToTheSender : Prop :=
  ∀ (s : State) (f g : Frame) (rest : List Event),
    decodeCode f.id = 5 → decodeCode g.id = 5 → f.data = g.data →
      (s.state.isWait = true ∨ ∃ b, s.dsq = .pinging b) →
        withoutEvents (step { s with inputs := .rx (.frame f) :: rest }) =
          withoutEvents (step { s with inputs := .rx (.frame g) :: rest })

/-- 44_report_reader R231. -/
def Obligations.FilterTestsArrivalAndCode : Prop :=
  rfd .none = .noReport 0 ∧
    ∀ f : Frame,
      (f.id.toNat % 16 = 5 → rfd (.frame f) = .report f.data) ∧
      (f.id.toNat % 16 ≠ 5 → rfd (.frame f) = .noReport 1)

/-- 43_upload_sequencer R197. -/
def Obligations.LastChunkExpectsReadyFinal : Prop :=
  ∀ offset len : Half,
    (offset.toNat + 8 = len.toNat → expectedSub offset len = 2) ∧
      (offset.toNat + 8 ≠ len.toNat → expectedSub offset len = 1)

/-! ## Reports at CBU: the discovery sequencer -/

/-- 42_discovery R175: any report of eight bytes answers PING, whatever its subcode, its board and its
base: each report row of the table, and any frame of eight bytes whose code is 5; no register of USQ
changes. -/
def Obligations.ReportAnswersPing : Prop :=
  ∀ (b : Board) (s : State), s.state.isWait = false → s.dsq = .pinging b →
    (∀ (i : Instr) (board : Board) (body : ReportBody),
      (i = .reportPong board body ∨ i = .reportReady board body ∨
        i = .reportReadyFinal board body ∨ i = .reportDone board body) →
      s.port = .host →
        exec i s = .next
          { s with
            dsq := .idle
            trace := s.trace ++ [.result (.ping (.pongInfo body.vmaj body.vmin body.vpat body.health
              (decide (body.health = 1)) body.rsv6 body.rsv7))] }) ∧
    (∀ (id : CanId) (d0 d1 d2 d3 d4 d5 d6 d7 : Byte) (rest : List Event),
      s.inputs = .rx (.frame ⟨id, [d0, d1, d2, d3, d4, d5, d6, d7]⟩) :: rest →
      id.toNat % 16 = 5 →
        step s = .next
          { s with
            inputs := rest, dsq := .idle, port := .host
            trace := s.trace ++
              [.event (.rx (.frame ⟨id, [d0, d1, d2, d3, d4, d5, d6, d7]⟩)),
                .result (.ping (.pongInfo d0 d1 d2 d3 (decide (d3 = 1)) d6 d7))] })

/-- 42_discovery R175: a command frame, any other frame whose code is not 5, or nothing, fails PING with
NO_REPORT; a report of fewer than eight bytes fails it with MALFORMED_REPORT (log entry 5). RFD's
diagnostic kind is left open. -/
def Obligations.NoReportFailsPing : Prop :=
  ∀ (b : Board) (s : State), s.state.isWait = false → s.dsq = .pinging b →
    (∀ (i : Instr) (board : Board) (v : Half) (chunk : List Byte),
      (i = .ping board ∨ i = .start board v ∨ i = .data board chunk ∨ i = .stop board v) →
      s.port = .host →
        ∃ k, exec i s = .next
          { s with dsq := .idle, trace := s.trace ++ [.result (.ping (.failNoReport k))] }) ∧
    (∀ rest, s.inputs = .rx .none :: rest →
      ∃ k, step s = .next
        { s with
          inputs := rest, dsq := .idle
          trace := s.trace ++ [.event (.rx .none), .result (.ping (.failNoReport k))] }) ∧
    (∀ (f : Frame) (rest : List Event), s.inputs = .rx (.frame f) :: rest →
      (f.id.toNat % 16 ≠ 5 → f.data.length ≤ 8 →
        ∃ k, step s = .next
          { s with
            inputs := rest, dsq := .idle, port := .host
            trace := s.trace ++
              [.event (.rx (.frame f)), .result (.ping (.failNoReport k))] }) ∧
      (f.id.toNat % 16 = 5 → f.data.length < 8 →
        step s = .next
          { s with
            inputs := rest, dsq := .idle, port := .host
            trace := s.trace ++ [.event (.rx (.frame f)), .result (.ping .failMalformed)] }))

/-- 42_discovery R172: while SCAN waits for a board, that board's own PONG is OK and every other row of
the opcode table is ERR. Of the outcomes, NONE is NO_RESPONSE, a frame with the board's whole report
identifier, eight bytes and the subcode 0 is OK, and every other frame, short, foreign or undefined, is
ERR. SCAN then goes on to the next board, or ends after board 15. -/
def Obligations.ScanClassifiesTheFrameAndGoesOn : Prop :=
  ∀ (b : Board) (cs : List ScanClass) (s : State) (c : ScanClass),
    s.state.isWait = false → s.dsq = .scanning b cs →
    (∀ i : Instr, i.WellFormed → s.port = .host →
      ((∃ body, i = .reportPong b body) ∧ c = .ok ∨
        (¬ ∃ body, i = .reportPong b body) ∧ c = .err) →
      (b = 15 →
        exec i s = .next
          { s with dsq := .idle, trace := s.trace ++ [.result (.scan (cs ++ [c]))] }) ∧
      (b ≠ 15 →
        exec i s = .next
          { s with
            dsq := .scanning (b + 1) (cs ++ [c])
            trace := s.trace ++ [.sent (buildPing (b + 1))]
            toTarget := s.toTarget ++ [buildPing (b + 1)]
            toHost := [], unread := s.unread ++ s.toHost })) ∧
    (∀ (o : RxOutcome) (rest : List Event), s.inputs = .rx o :: rest →
      (o = .none ∧ c = .noResponse ∨
        ∃ f, o = .frame f ∧ f.data.length ≤ 8 ∧
          (f.id.toNat = 0x1B007105 + 16 * b.toNat ∧ f.data.length = 8 ∧ f.data[4]? = some 0 ∧
              c = .ok ∨
            ¬ (f.id.toNat = 0x1B007105 + 16 * b.toNat ∧ f.data.length = 8 ∧
              f.data[4]? = some 0) ∧ c = .err)) →
      (b = 15 →
        step s = .next
          { s with
            inputs := rest, dsq := .idle, port := if o = .none then s.port else .host
            trace := s.trace ++ [.event (.rx o), .result (.scan (cs ++ [c]))] }) ∧
      (b ≠ 15 →
        step s = .next
          { s with
            inputs := rest
            dsq := .scanning (b + 1) (cs ++ [c])
            port := if o = .none then s.port else .host
            trace := s.trace ++ [.event (.rx o), .sent (buildPing (b + 1))]
            toTarget := s.toTarget ++ [buildPing (b + 1)]
            toHost := [], unread := s.unread ++ s.toHost }))

/-- 42_discovery R171: a whole SCAN sends the sixteen PINGs in order, consumes sixteen outcomes
whatever they are, and answers their classifications; no register of USQ changes. What each outcome is
classified as is ScanClassifiesTheFrameAndGoesOn's. The clause that replies which came before become
unread is not R171's but the model's (log entry 28). -/
def Obligations.ScanVisitsEveryBoard : Prop :=
  ∀ (s : State) (os : List RxOutcome) (rest : List Event),
    s.quiet → s.params.hasDiscovery = true → os.length = 16 → os.all RxOutcome.wf = true →
      s.inputs = .scan :: (os.map Event.rx ++ rest) →
        ∃ t, Sys2Proof.core.run 17 s = .next t ∧
          t = { s with
            inputs := rest, trace := t.trace, port := t.port, toTarget := t.toTarget
            toHost := [], unread := s.unread ++ s.toHost } ∧
          t.sent = s.sent ++ (List.range 16).map (fun b => buildPing (BitVec.ofNat 4 b)) ∧
          t.results = s.results ++
            [.scan (List.zipWith (fun b o => scanClassify (BitVec.ofNat 4 b) o) (List.range 16) os)]

/-- 42_discovery R171, R175, 60_exceptions R324, 00_scope R10: where PING and SCAN begin and where they
do not. The form of the stops is the model's (log entries 9, 10). -/
def Obligations.DiscoveryBeginsOnlyWhenQuiet : Prop :=
  ∀ (s : State) (board : Nat) (rest : List Event),
    (s.inputs = .ping board :: rest →
      (s.params.hasDiscovery = false → step s = .refused .noDiscovery) ∧
      (s.params.hasDiscovery = true → ¬ s.quiet → step s = .fault .discoveryOutsideIdle) ∧
      (s.params.hasDiscovery = true → s.quiet → board > 15 →
        step s = .refused .boardOutOfRange) ∧
      (s.params.hasDiscovery = true → s.quiet → board ≤ 15 →
        step s = .next
          { s with
            inputs := rest
            dsq := .pinging (BitVec.ofNat 4 board)
            trace := s.trace ++ [.event (.ping board), .sent (buildPing (BitVec.ofNat 4 board))]
            toTarget := s.toTarget ++ [buildPing (BitVec.ofNat 4 board)]
            toHost := [], unread := s.unread ++ s.toHost })) ∧
    (s.inputs = .scan :: rest →
      (s.params.hasDiscovery = false → step s = .refused .noDiscovery) ∧
      (s.params.hasDiscovery = true → ¬ s.quiet → step s = .fault .discoveryOutsideIdle) ∧
      (s.params.hasDiscovery = true → s.quiet →
        step s = .next
          { s with
            inputs := rest
            dsq := .scanning 0 []
            trace := s.trace ++ [.event .scan, .sent (buildPing 0)]
            toTarget := s.toTarget ++ [buildPing 0]
            toHost := [], unread := s.unread ++ s.toHost }))

/-! ## Commands at the targets (the environment model, 46_reference_responder; log entry 11) -/

/-- 46_reference_responder R283: the addressed responders answer PING and keep their progress. The order
of several answers is log entry 30. -/
def Obligations.PingIsAnsweredByItsBoard : Prop :=
  ∀ (board : Board) (s : State), s.port = .target →
    exec (.ping board) s = .next
      { s with
        toHost := s.toHost ++ (s.targets.filter (fun r => decide (r.me = board))).map (fun r =>
          buildReport board [r.vmaj, r.vmin, r.vpat, r.health, 0, 0, 0, 0]) }

/-- 46_reference_responder R284 and R285: START resets the addressed responders' progress and is
answered READY; a length that is no multiple of 8 is met with silence, and that it then leaves the
registers as they are in every RSTATE is the model's choice (log entry 29), as is the order of several
answers (log entry 30). -/
def Obligations.StartResetsTheTargetsProgress : Prop :=
  ∀ (board : Board) (len : Half) (s : State), s.port = .target →
    (len.toNat % 8 = 0 →
      exec (.start board len) s = .next
        { s with
          targets := s.targets.map (fun r =>
            if r.me = board then
              { r with
                rlen := len, rcount := 0, rcrc := 0
                rstate := if len = 0 then .full else .receiving }
            else r)
          toHost := s.toHost ++ (s.targets.filter (fun r => decide (r.me = board))).map (fun _ =>
            buildReport board [0, 0, 0, 0, 1, 0, 0, 0]) }) ∧
    (len.toNat % 8 ≠ 0 → exec (.start board len) s = .next s)

/-- 46_reference_responder R285: with one responder at the address, DATA is folded, counted and
answered while it receives, and has no effect otherwise. -/
def Obligations.DataIsFoldedAndCountedByTheTarget : Prop :=
  ∀ (chunk : List Byte) (r : Responder) (s : State), chunk.length = 8 → s.port = .target →
    s.targets = [r] →
      (r.rstate = .receiving → r.rcount + 8 ≠ r.rlen →
        exec (.data r.me chunk) s = .next
          { s with
            targets := [{ r with rcrc := crcOver chunk r.rcrc, rcount := r.rcount + 8 }]
            toHost := s.toHost ++ [buildReport r.me [0, 0, 0, 0, 1, 0, 0, 0]] }) ∧
      (r.rstate = .receiving → r.rcount + 8 = r.rlen →
        exec (.data r.me chunk) s = .next
          { s with
            targets := [{ r with
              rcrc := crcOver chunk r.rcrc, rcount := r.rcount + 8, rstate := .full }]
            toHost := s.toHost ++ [buildReport r.me [0, 0, 0, 0, 2, 0, 0, 0]] }) ∧
      (r.rstate ≠ .receiving → exec (.data r.me chunk) s = .next s)

/-- 46_reference_responder R286: with one responder at the address, STOP is answered DONE with the
status its policy gives. That the registers stay as they are outside R_FULL is the model's choice where
the spec shows no registers (log entry 31). -/
def Obligations.StopIsAnsweredWithTheStatus : Prop :=
  ∀ (crc : Half) (r : Responder) (s : State), s.port = .target → s.targets = [r] →
    (r.rstate = .full →
      exec (.stop r.me crc) s = .next
        { s with
          targets := [{ r with rstate := .idle }]
          toHost := s.toHost ++ [buildReport r.me [0, 0, 0, 0, 3,
            if r.policy = .crcCheck ∧ crc ≠ r.rcrc then 0 else 1, 0, 0]] }) ∧
    (r.rstate ≠ .full → r.policy = .crcCheck →
      exec (.stop r.me crc) s = .next
        { s with toHost := s.toHost ++ [buildReport r.me [0, 0, 0, 0, 3, 0, 0, 0]] }) ∧
    (r.rstate ≠ .full → r.policy = .alwaysSuccess → exec (.stop r.me crc) s = .next s)

/-- 46_reference_responder R282: a command for no responder's address, any report, and any frame that is
foreign, malformed or undefined by the tests of 45_frames R262, has no effect at the targets. -/
def Obligations.TargetsIgnoreWhatIsNotForThem : Prop :=
  ∀ s : State,
    (∀ (board : Board) (v : Half) (chunk : List Byte) (body : ReportBody) (i : Instr),
      s.port = .target →
        ((i = .reportPong board body ∨ i = .reportReady board body ∨
          i = .reportReadyFinal board body ∨ i = .reportDone board body) → exec i s = .next s) ∧
        ((∀ r ∈ s.targets, r.me ≠ board) →
          (i = .ping board ∨ i = .start board v ∨ i = .data board chunk ∨ i = .stop board v) →
            exec i s = .next s)) ∧
    (∀ (f : Frame) (code : Nat) (rest : List Event), s.inputs = .deliver f :: rest →
      f.data.length ≤ 8 → code = f.id.toNat % 16 →
      (f.id.toNat / 256 ≠ 0x1B0071 ∨ code = 1 ∨ code ≥ 5 ∨ code = 0 ∧ f.data.length ≠ 0 ∨
        (code = 2 ∨ code = 4) ∧ f.data.length ≠ 2 ∨ code = 3 ∧ f.data.length ≠ 8) →
        step s = .next
          { s with
            inputs := rest, port := .target, trace := s.trace ++ [.event (.deliver f)] })

/-! ## Steps and frames -/

/-- 00_scope R15: when the next event is the arrival of a row of the opcode table, the step is `exec`
of that row at the node it arrives at, on the state without the event, which the trace now shows
(log entries 6, 7, 22). -/
def Obligations.StepExecutesTheArrivingRow : Prop :=
  ∀ (s s' : State) (f : Frame) (i : Instr), decode f = .instr i →
    (s.nextEvent = some (.rx (.frame f), s') →
      step s = exec i { s' with
        trace := s'.trace ++ [.event (.rx (.frame f))], port := .host }) ∧
    (s.nextEvent = some (.deliver f, s') →
      step s = exec i { s' with
        trace := s'.trace ++ [.event (.deliver f)], port := .target })

/-- The model's choice of the next event (log entries 7 and 8): the oldest input; with none, a frame in
flight to the targets; then, for a wait, what the channel gives it; and otherwise no event. For every
value of the free choice whether the transport keeps an unread frame (10_state R33 item 2, log entry
28): a kept one is the outcome, a lost one is passed over; with none left the outcome is the oldest
frame that came in this wait, or NONE. -/
def Obligations.NextEventFollowsTheInputsThenTheChannel : Prop :=
  ∀ (s : State) (e : Event) (f : Frame) (ins : List Event) (fs : List Frame),
    (s.inputs = e :: ins → s.nextEvent = some (e, { s with inputs := ins })) ∧
    (s.inputs = [] → s.toTarget = f :: fs →
      s.nextEvent = some (.deliver f, { s with toTarget := fs })) ∧
    (s.inputs = [] → s.toTarget = [] → (s.state.isWait = true ∨ s.dsq ≠ .idle) →
      (s.unread = f :: fs →
        (Config.channelKeeps s.freeCount = true →
          s.nextEvent =
            some (.rx (.frame f), { s with unread := fs, freeCount := s.freeCount + 1 })) ∧
        (Config.channelKeeps s.freeCount = false →
          s.nextEvent = { s with unread := fs, freeCount := s.freeCount + 1 }.nextEvent)) ∧
      (s.unread = [] → s.toHost = f :: fs →
        s.nextEvent = some (.rx (.frame f), { s with toHost := fs })) ∧
      (s.unread = [] → s.toHost = [] → s.nextEvent = some (.rx .none, s))) ∧
    (s.inputs = [] → s.toTarget = [] → s.state.isWait = false → s.dsq = .idle → step s = .next s)

/-- No instruction writes the image, the session's BOARD and LEN, or what is not CBU's; one that arrives
at the targets changes only the responders and their replies, one that arrives at CBU no responder and
no reply but that it may end the wait in which the reply came; this clause, with the order it keeps, is
the model's choice (log entry 28; 10_state R33 item 2). -/
def Obligations.InstructionFrame : Prop :=
  ∀ (i : Instr) (s t : State), exec i s = .next t →
    (∀ a, t.img.padded a = s.img.padded a) ∧ t.img = s.img ∧ t.board = s.board ∧ t.len = s.len ∧
    t.params = s.params ∧ t.presub = s.presub ∧ t.channel = s.channel ∧ t.inputs = s.inputs ∧
    t.port = s.port ∧ t.freeCount = s.freeCount ∧
    (s.port = .target → t = { s with targets := t.targets, toHost := t.toHost }) ∧
    (s.port = .host → t.targets = s.targets ∧ t.unread ++ t.toHost = s.unread ++ s.toHost)

/-- 10_state R35, last sentence, and 20_memory R52: while a session is under way its board, its length
and its image do not change, and no step changes the parameters. -/
def Obligations.SessionParametersAreFixed : Prop :=
  ∀ s t : State, step s = .next t →
    t.params = s.params ∧
      (s.state.isWait = true →
        t.board = s.board ∧ t.len = s.len ∧ t.img = s.img ∧ ∀ a, t.img.padded a = s.img.padded a)

/-- 43_upload_sequencer R216: "No step other than RELEASE leaves a terminal state." And no step from a
terminal state sends a frame (60_exceptions R310, 20_memory R65 item 3); its premise, that discovery
runs only in Idle, is a clause of the invariant that StepKeepsTheInvariant states. -/
def Obligations.OnlyReleaseLeavesATerminalState : Prop :=
  ∀ s t : State, step s = .next t → s.state.isTerminal = true →
    (t.state = s.state ∨ (t.state = .idle ∧ ∃ rest, s.inputs = .release :: rest)) ∧
      ((s.dsq ≠ .idle → s.state = .idle) → t.sent = s.sent)

/-- 60_exceptions R310: a step that fails the session records a cause and the state it failed from and
sends no frame; a session that was under way keeps its registers. After a PRECONDITION failure R310
gives them no value, and nothing is stated of them. -/
def Obligations.FailureIsPrecise : Prop :=
  ∀ s t : State, step s = .next t → s.state ≠ .failed → t.state = .failed →
    t.cause ≠ .none ∧ t.fstate = s.state ∧ t.sent = s.sent ∧ t.toTarget = s.toTarget ∧
      (s.state ≠ .idle →
        t.board = s.board ∧ t.len = s.len ∧ t.crc = s.crc ∧ t.offset = s.offset ∧ t.img = s.img)

/-- 20_memory R65: a step sends at most one frame, and what was visible stays on record. -/
def Obligations.AtMostOneFrameIsSentInAStep : Prop :=
  ∀ s t : State, step s = .next t →
    s.trace <+: t.trace ∧ (t.sent = s.sent ∨ ∃ f, t.sent = s.sent ++ [f])

/-- 10_state R35, R28, R38 and 20_memory R52: every step from a state that meets the invariant, whether
a run reaches it or not, gives a state that meets it. -/
def Obligations.StepKeepsTheInvariant : Prop :=
  ∀ s t : State, s.Inv → step s = .next t → t.Inv

/-- 46_reference_responder R284 to R286: every step keeps the responders' counts consistent. -/
def Obligations.StepKeepsTheResponders : Prop :=
  ∀ s t : State, (∀ r ∈ s.targets, r.inv) → step s = .next t → ∀ r ∈ t.targets, r.inv

/-! ## Whole sessions -/

/-- 43_upload_sequencer R220, first half, with R212 and 20_memory R65 item 1: a LOAD whose waits are
answered as the rule says ends in Succeeded, having sent START, the chunks in order and STOP. -/
def Obligations.CompliantRepliesGiveSuccess : Prop :=
  ∀ (s : State) (board : Nat) (image : Image) (n : Nat) (os : List RxOutcome) (rest : List Event),
    s.quiet → Admitted board image s.params.padPolicy →
      paddedLen s.params.padPolicy image.len = 8 * n → Compliant n os →
        s.inputs = .load board image :: (os.map Event.rx ++ rest) →
          ∃ t, Sys2Proof.core.run (n + 3) s = .next t ∧
            t.state = .succeeded ∧ t.cause = .none ∧ t.status = 1 ∧ t.len.toNat = 8 * n ∧
            t.offset = t.len ∧ t.crc = crcOver (image.paddedBytes 0 (8 * n)) 0 ∧
            t.inputs = rest ∧
            t.sent = s.sent ++ sessionFrames (BitVec.ofNat 4 board) image n

/-- 43_upload_sequencer R220, second half: if the reply to the `j`-th command is omitted, the session
ends in Failed with NO_REPORT at that wait, having sent no frame after that command. -/
def Obligations.OmittedReplyGivesFailure : Prop :=
  ∀ (s : State) (board : Nat) (image : Image) (n j : Nat) (os : List RxOutcome)
    (rest : List Event),
    s.quiet → Admitted board image s.params.padPolicy →
      paddedLen s.params.padPolicy image.len = 8 * n → Compliant n os → j < n + 2 →
        s.inputs = .load board image :: ((os.take j).map Event.rx ++ .rx .none :: rest) →
          ∃ t, Sys2Proof.core.run (j + 2) s = .next t ∧
            t.state = .failed ∧ t.cause = .noReport ∧
            t.fstate = (if j = 0 then .starting else if j = n + 1 then .finishing
              else .transferring) ∧
            t.inputs = rest ∧
            t.sent = s.sent ++ (sessionFrames (BitVec.ofNat 4 board) image n).take (j + 1)

/-- 46_reference_responder R287: with one responder that checks the CRC at the session's address, and
nothing else on the bus, every admitted LOAD with LEN > 0 succeeds, and the two CRCs agree. The channel
and the responder are the model's environment (log entries 8 and 11). -/
def Obligations.ClosedSystemSucceeds : Prop :=
  ∀ (s : State) (board : Nat) (image : Image) (n : Nat) (r : Responder),
    s.quiet → Admitted board image s.params.padPolicy →
      paddedLen s.params.padPolicy image.len = 8 * n → 0 < n →
        s.targets = [r] → r.me = BitVec.ofNat 4 board → r.policy = .crcCheck →
          s.toTarget = [] → s.toHost = [] → s.unread = [] →
            s.inputs = [.load board image] →
            ∃ t r', Sys2Proof.core.run (2 * n + 5) s = .next t ∧
              t.state = .succeeded ∧ t.len.toNat = 8 * n ∧
              t.crc = crcOver (image.paddedBytes 0 (8 * n)) 0 ∧
              t.targets = [r'] ∧ r'.rcrc = t.crc ∧ r'.rcount = t.len
end

