-- ==== Sys2Proof/Laws/Memory.lean ====
section
/-! SUPPORT. The laws of the image's memory: every operation that makes one keeps the canonical form,
and what the padded image reads as. -/

namespace Sys2Proof.Machine

theorem Memory.wfFrom_mono {m : Memory} {lo lo' : Nat} (h : lo ≤ lo')
    (hm : Memory.wfFrom lo' m = true) : Memory.wfFrom lo m = true := by
  cases m with
  | nil => rfl
  | cons c rest =>
    simp only [Memory.wfFrom, Bool.and_eq_true, decide_eq_true_eq] at hm ⊢
    exact ⟨⟨by omega, hm.1.2⟩, hm.2⟩

/-- A buffer's memory is canonical from its first address on. -/
theorem Memory.ofBytesFrom_wfFrom (a : Nat) (bytes : List Byte) :
    Memory.wfFrom a (Memory.ofBytesFrom a bytes) = true := by
  induction bytes generalizing a with
  | nil => rfl
  | cons b rest ih =>
    simp only [Memory.ofBytesFrom]
    split
    · exact Memory.wfFrom_mono (Nat.le_succ a) (ih (a + 1))
    · rename_i hb
      simp [Memory.wfFrom, hb, ih (a + 1)]

/-- A buffer's memory lists only addresses of the buffer. -/
theorem Memory.ofBytesFrom_bound (a : Nat) (bytes : List Byte) :
    (Memory.ofBytesFrom a bytes).all (fun c => decide (c.1 < a + bytes.length)) = true := by
  induction bytes generalizing a with
  | nil => rfl
  | cons b rest ih =>
    have h := ih (a + 1)
    simp only [List.all_eq_true, decide_eq_true_eq, List.length_cons] at h ⊢
    intro c hc
    simp only [Memory.ofBytesFrom] at hc
    split at hc
    · have := h c hc; omega
    · rcases List.mem_cons.1 hc with rfl | hc
      · show a < a + (rest.length + 1); omega
      · have := h c hc; omega

/-- The image of a buffer is in canonical form. -/
theorem Image.ofBytes_wf (nseg base : Nat) (bytes : List Byte) :
    (Image.ofBytes nseg base bytes).wf = true := by
  have h1 := Memory.ofBytesFrom_wfFrom 0 bytes
  have h2 := Memory.ofBytesFrom_bound 0 bytes
  simp only [Nat.zero_add] at h2
  simp only [Image.wf, Image.ofBytes, Memory.wf, h1, Bool.true_and]
  exact h2

/-- The image that RELEASE leaves is in canonical form. -/
theorem freeImage_wf (n : Nat) : (freeImage n).wf = true := Image.ofBytes_wf _ _ _

/-- The image at reset is in canonical form. -/
theorem reset_img_wf : State.reset.img.wf = true := by decide

@[simp] theorem Image.paddedBytes_length (i : Image) (a n : Nat) :
    (i.paddedBytes a n).length = n := by
  induction n generalizing a with
  | zero => rfl
  | succ n ih => simp [Image.paddedBytes, ih]

/-- Reading in two pieces reads the same bytes. -/
theorem Image.paddedBytes_append (i : Image) (a m n : Nat) :
    i.paddedBytes a (m + n) = i.paddedBytes a m ++ i.paddedBytes (a + m) n := by
  induction m generalizing a with
  | zero => simp [Image.paddedBytes]
  | succ m ih =>
    rw [Nat.succ_add, Image.paddedBytes, Image.paddedBytes, ih (a + 1), Nat.add_right_comm a 1 m]
    rfl

/-- A chunk read answers exactly inside the padded image (20_memory R54). -/
theorem memRead_eq_some {i : Image} {len a n : Nat} {bytes : List Byte} :
    memRead i len a n = some bytes ↔ a + n ≤ len ∧ bytes = i.paddedBytes a n := by
  unfold memRead
  split <;> simp_all [eq_comm]

end Sys2Proof.Machine
end

