-- ==== Sys2Proof/Laws/State.lean ====
section
/-! SUPPORT. One lemma per field for each named update of State, so that no later proof unfolds a
record update. -/

namespace Sys2Proof.Machine

@[simp] theorem State.log_state (t : TraceItem) (s : State) :
    (s.log t).state = s.state := rfl

@[simp] theorem State.log_board (t : TraceItem) (s : State) :
    (s.log t).board = s.board := rfl

@[simp] theorem State.log_len (t : TraceItem) (s : State) :
    (s.log t).len = s.len := rfl

@[simp] theorem State.log_crc (t : TraceItem) (s : State) :
    (s.log t).crc = s.crc := rfl

@[simp] theorem State.log_offset (t : TraceItem) (s : State) :
    (s.log t).offset = s.offset := rfl

@[simp] theorem State.log_img (t : TraceItem) (s : State) :
    (s.log t).img = s.img := rfl

@[simp] theorem State.log_cause (t : TraceItem) (s : State) :
    (s.log t).cause = s.cause := rfl

@[simp] theorem State.log_expected (t : TraceItem) (s : State) :
    (s.log t).expected = s.expected := rfl

@[simp] theorem State.log_actual (t : TraceItem) (s : State) :
    (s.log t).actual = s.actual := rfl

@[simp] theorem State.log_status (t : TraceItem) (s : State) :
    (s.log t).status = s.status := rfl

@[simp] theorem State.log_nrkind (t : TraceItem) (s : State) :
    (s.log t).nrkind = s.nrkind := rfl

@[simp] theorem State.log_presub (t : TraceItem) (s : State) :
    (s.log t).presub = s.presub := rfl

@[simp] theorem State.log_fstate (t : TraceItem) (s : State) :
    (s.log t).fstate = s.fstate := rfl

@[simp] theorem State.log_dsq (t : TraceItem) (s : State) :
    (s.log t).dsq = s.dsq := rfl

@[simp] theorem State.log_channel (t : TraceItem) (s : State) :
    (s.log t).channel = s.channel := rfl

@[simp] theorem State.log_params (t : TraceItem) (s : State) :
    (s.log t).params = s.params := rfl

@[simp] theorem State.log_targets (t : TraceItem) (s : State) :
    (s.log t).targets = s.targets := rfl

@[simp] theorem State.log_toTarget (t : TraceItem) (s : State) :
    (s.log t).toTarget = s.toTarget := rfl

@[simp] theorem State.log_toHost (t : TraceItem) (s : State) :
    (s.log t).toHost = s.toHost := rfl

@[simp] theorem State.log_unread (t : TraceItem) (s : State) :
    (s.log t).unread = s.unread := rfl

@[simp] theorem State.log_inputs (t : TraceItem) (s : State) :
    (s.log t).inputs = s.inputs := rfl

@[simp] theorem State.log_trace (t : TraceItem) (s : State) :
    (s.log t).trace = s.trace ++ [t] := rfl

@[simp] theorem State.log_port (t : TraceItem) (s : State) :
    (s.log t).port = s.port := rfl

@[simp] theorem State.log_freeCount (t : TraceItem) (s : State) :
    (s.log t).freeCount = s.freeCount := rfl

@[simp] theorem State.send_state (f : Frame) (s : State) :
    (s.send f).state = s.state := rfl

@[simp] theorem State.send_board (f : Frame) (s : State) :
    (s.send f).board = s.board := rfl

@[simp] theorem State.send_len (f : Frame) (s : State) :
    (s.send f).len = s.len := rfl

@[simp] theorem State.send_crc (f : Frame) (s : State) :
    (s.send f).crc = s.crc := rfl

@[simp] theorem State.send_offset (f : Frame) (s : State) :
    (s.send f).offset = s.offset := rfl

@[simp] theorem State.send_img (f : Frame) (s : State) :
    (s.send f).img = s.img := rfl

@[simp] theorem State.send_cause (f : Frame) (s : State) :
    (s.send f).cause = s.cause := rfl

@[simp] theorem State.send_expected (f : Frame) (s : State) :
    (s.send f).expected = s.expected := rfl

@[simp] theorem State.send_actual (f : Frame) (s : State) :
    (s.send f).actual = s.actual := rfl

@[simp] theorem State.send_status (f : Frame) (s : State) :
    (s.send f).status = s.status := rfl

@[simp] theorem State.send_nrkind (f : Frame) (s : State) :
    (s.send f).nrkind = s.nrkind := rfl

@[simp] theorem State.send_presub (f : Frame) (s : State) :
    (s.send f).presub = s.presub := rfl

@[simp] theorem State.send_fstate (f : Frame) (s : State) :
    (s.send f).fstate = s.fstate := rfl

@[simp] theorem State.send_dsq (f : Frame) (s : State) :
    (s.send f).dsq = s.dsq := rfl

@[simp] theorem State.send_channel (f : Frame) (s : State) :
    (s.send f).channel = s.channel := rfl

@[simp] theorem State.send_params (f : Frame) (s : State) :
    (s.send f).params = s.params := rfl

@[simp] theorem State.send_targets (f : Frame) (s : State) :
    (s.send f).targets = s.targets := rfl

@[simp] theorem State.send_toTarget (f : Frame) (s : State) :
    (s.send f).toTarget = s.toTarget ++ [f] := rfl

@[simp] theorem State.send_toHost (f : Frame) (s : State) :
    (s.send f).toHost = [] := rfl

@[simp] theorem State.send_unread (f : Frame) (s : State) :
    (s.send f).unread = s.unread ++ s.toHost := rfl

@[simp] theorem State.send_inputs (f : Frame) (s : State) :
    (s.send f).inputs = s.inputs := rfl

@[simp] theorem State.send_trace (f : Frame) (s : State) :
    (s.send f).trace = s.trace ++ [.sent f] := rfl

@[simp] theorem State.send_port (f : Frame) (s : State) :
    (s.send f).port = s.port := rfl

@[simp] theorem State.send_freeCount (f : Frame) (s : State) :
    (s.send f).freeCount = s.freeCount := rfl

@[simp] theorem State.atPort_state (p : Port) (s : State) :
    (s.atPort p).state = s.state := rfl

@[simp] theorem State.atPort_board (p : Port) (s : State) :
    (s.atPort p).board = s.board := rfl

@[simp] theorem State.atPort_len (p : Port) (s : State) :
    (s.atPort p).len = s.len := rfl

@[simp] theorem State.atPort_crc (p : Port) (s : State) :
    (s.atPort p).crc = s.crc := rfl

@[simp] theorem State.atPort_offset (p : Port) (s : State) :
    (s.atPort p).offset = s.offset := rfl

@[simp] theorem State.atPort_img (p : Port) (s : State) :
    (s.atPort p).img = s.img := rfl

@[simp] theorem State.atPort_cause (p : Port) (s : State) :
    (s.atPort p).cause = s.cause := rfl

@[simp] theorem State.atPort_expected (p : Port) (s : State) :
    (s.atPort p).expected = s.expected := rfl

@[simp] theorem State.atPort_actual (p : Port) (s : State) :
    (s.atPort p).actual = s.actual := rfl

@[simp] theorem State.atPort_status (p : Port) (s : State) :
    (s.atPort p).status = s.status := rfl

@[simp] theorem State.atPort_nrkind (p : Port) (s : State) :
    (s.atPort p).nrkind = s.nrkind := rfl

@[simp] theorem State.atPort_presub (p : Port) (s : State) :
    (s.atPort p).presub = s.presub := rfl

@[simp] theorem State.atPort_fstate (p : Port) (s : State) :
    (s.atPort p).fstate = s.fstate := rfl

@[simp] theorem State.atPort_dsq (p : Port) (s : State) :
    (s.atPort p).dsq = s.dsq := rfl

@[simp] theorem State.atPort_channel (p : Port) (s : State) :
    (s.atPort p).channel = s.channel := rfl

@[simp] theorem State.atPort_params (p : Port) (s : State) :
    (s.atPort p).params = s.params := rfl

@[simp] theorem State.atPort_targets (p : Port) (s : State) :
    (s.atPort p).targets = s.targets := rfl

@[simp] theorem State.atPort_toTarget (p : Port) (s : State) :
    (s.atPort p).toTarget = s.toTarget := rfl

@[simp] theorem State.atPort_toHost (p : Port) (s : State) :
    (s.atPort p).toHost = s.toHost := rfl

@[simp] theorem State.atPort_unread (p : Port) (s : State) :
    (s.atPort p).unread = s.unread := rfl

@[simp] theorem State.atPort_inputs (p : Port) (s : State) :
    (s.atPort p).inputs = s.inputs := rfl

@[simp] theorem State.atPort_trace (p : Port) (s : State) :
    (s.atPort p).trace = s.trace := rfl

@[simp] theorem State.atPort_port (p : Port) (s : State) :
    (s.atPort p).port = p := rfl

@[simp] theorem State.atPort_freeCount (p : Port) (s : State) :
    (s.atPort p).freeCount = s.freeCount := rfl

@[simp] theorem State.raiseFail_state (c : Cause) (s : State) :
    (s.raiseFail c).state = .failed := rfl

@[simp] theorem State.raiseFail_board (c : Cause) (s : State) :
    (s.raiseFail c).board = s.board := rfl

@[simp] theorem State.raiseFail_len (c : Cause) (s : State) :
    (s.raiseFail c).len = s.len := rfl

@[simp] theorem State.raiseFail_crc (c : Cause) (s : State) :
    (s.raiseFail c).crc = s.crc := rfl

@[simp] theorem State.raiseFail_offset (c : Cause) (s : State) :
    (s.raiseFail c).offset = s.offset := rfl

@[simp] theorem State.raiseFail_img (c : Cause) (s : State) :
    (s.raiseFail c).img = s.img := rfl

@[simp] theorem State.raiseFail_cause (c : Cause) (s : State) :
    (s.raiseFail c).cause = c := rfl

@[simp] theorem State.raiseFail_expected (c : Cause) (s : State) :
    (s.raiseFail c).expected = s.expected := rfl

@[simp] theorem State.raiseFail_actual (c : Cause) (s : State) :
    (s.raiseFail c).actual = s.actual := rfl

@[simp] theorem State.raiseFail_status (c : Cause) (s : State) :
    (s.raiseFail c).status = s.status := rfl

@[simp] theorem State.raiseFail_nrkind (c : Cause) (s : State) :
    (s.raiseFail c).nrkind = s.nrkind := rfl

@[simp] theorem State.raiseFail_presub (c : Cause) (s : State) :
    (s.raiseFail c).presub = s.presub := rfl

@[simp] theorem State.raiseFail_fstate (c : Cause) (s : State) :
    (s.raiseFail c).fstate = s.fstate := rfl

@[simp] theorem State.raiseFail_dsq (c : Cause) (s : State) :
    (s.raiseFail c).dsq = s.dsq := rfl

@[simp] theorem State.raiseFail_channel (c : Cause) (s : State) :
    (s.raiseFail c).channel = s.channel := rfl

@[simp] theorem State.raiseFail_params (c : Cause) (s : State) :
    (s.raiseFail c).params = s.params := rfl

@[simp] theorem State.raiseFail_targets (c : Cause) (s : State) :
    (s.raiseFail c).targets = s.targets := rfl

@[simp] theorem State.raiseFail_toTarget (c : Cause) (s : State) :
    (s.raiseFail c).toTarget = s.toTarget := rfl

@[simp] theorem State.raiseFail_toHost (c : Cause) (s : State) :
    (s.raiseFail c).toHost = s.toHost := rfl

@[simp] theorem State.raiseFail_unread (c : Cause) (s : State) :
    (s.raiseFail c).unread = s.unread := rfl

@[simp] theorem State.raiseFail_inputs (c : Cause) (s : State) :
    (s.raiseFail c).inputs = s.inputs := rfl

@[simp] theorem State.raiseFail_trace (c : Cause) (s : State) :
    (s.raiseFail c).trace = s.trace := rfl

@[simp] theorem State.raiseFail_port (c : Cause) (s : State) :
    (s.raiseFail c).port = s.port := rfl

@[simp] theorem State.raiseFail_freeCount (c : Cause) (s : State) :
    (s.raiseFail c).freeCount = s.freeCount := rfl

@[simp] theorem State.failFrom_state (c : Cause) (s : State) :
    (s.failFrom c).state = .failed := rfl

@[simp] theorem State.failFrom_board (c : Cause) (s : State) :
    (s.failFrom c).board = s.board := rfl

@[simp] theorem State.failFrom_len (c : Cause) (s : State) :
    (s.failFrom c).len = s.len := rfl

@[simp] theorem State.failFrom_crc (c : Cause) (s : State) :
    (s.failFrom c).crc = s.crc := rfl

@[simp] theorem State.failFrom_offset (c : Cause) (s : State) :
    (s.failFrom c).offset = s.offset := rfl

@[simp] theorem State.failFrom_img (c : Cause) (s : State) :
    (s.failFrom c).img = s.img := rfl

@[simp] theorem State.failFrom_cause (c : Cause) (s : State) :
    (s.failFrom c).cause = c := rfl

@[simp] theorem State.failFrom_expected (c : Cause) (s : State) :
    (s.failFrom c).expected = s.expected := rfl

@[simp] theorem State.failFrom_actual (c : Cause) (s : State) :
    (s.failFrom c).actual = s.actual := rfl

@[simp] theorem State.failFrom_status (c : Cause) (s : State) :
    (s.failFrom c).status = s.status := rfl

@[simp] theorem State.failFrom_nrkind (c : Cause) (s : State) :
    (s.failFrom c).nrkind = s.nrkind := rfl

@[simp] theorem State.failFrom_presub (c : Cause) (s : State) :
    (s.failFrom c).presub = s.presub := rfl

@[simp] theorem State.failFrom_fstate (c : Cause) (s : State) :
    (s.failFrom c).fstate = s.state := rfl

@[simp] theorem State.failFrom_dsq (c : Cause) (s : State) :
    (s.failFrom c).dsq = s.dsq := rfl

@[simp] theorem State.failFrom_channel (c : Cause) (s : State) :
    (s.failFrom c).channel = s.channel := rfl

@[simp] theorem State.failFrom_params (c : Cause) (s : State) :
    (s.failFrom c).params = s.params := rfl

@[simp] theorem State.failFrom_targets (c : Cause) (s : State) :
    (s.failFrom c).targets = s.targets := rfl

@[simp] theorem State.failFrom_toTarget (c : Cause) (s : State) :
    (s.failFrom c).toTarget = s.toTarget := rfl

@[simp] theorem State.failFrom_toHost (c : Cause) (s : State) :
    (s.failFrom c).toHost = s.toHost := rfl

@[simp] theorem State.failFrom_unread (c : Cause) (s : State) :
    (s.failFrom c).unread = s.unread := rfl

@[simp] theorem State.failFrom_inputs (c : Cause) (s : State) :
    (s.failFrom c).inputs = s.inputs := rfl

@[simp] theorem State.failFrom_trace (c : Cause) (s : State) :
    (s.failFrom c).trace = s.trace := rfl

@[simp] theorem State.failFrom_port (c : Cause) (s : State) :
    (s.failFrom c).port = s.port := rfl

@[simp] theorem State.failFrom_freeCount (c : Cause) (s : State) :
    (s.failFrom c).freeCount = s.freeCount := rfl

@[simp] theorem State.discardSession_state (s : State) :
    (s.discardSession).state = .idle := rfl

@[simp] theorem State.discardSession_img (s : State) :
    (s.discardSession).img = freeImage s.freeCount := rfl

@[simp] theorem State.discardSession_cause (s : State) :
    (s.discardSession).cause = .none := rfl

@[simp] theorem State.discardSession_dsq (s : State) :
    (s.discardSession).dsq = s.dsq := rfl

@[simp] theorem State.discardSession_channel (s : State) :
    (s.discardSession).channel = s.channel := rfl

@[simp] theorem State.discardSession_params (s : State) :
    (s.discardSession).params = s.params := rfl

@[simp] theorem State.discardSession_targets (s : State) :
    (s.discardSession).targets = s.targets := rfl

@[simp] theorem State.discardSession_toTarget (s : State) :
    (s.discardSession).toTarget = s.toTarget := rfl

@[simp] theorem State.discardSession_toHost (s : State) :
    (s.discardSession).toHost = s.toHost := rfl

@[simp] theorem State.discardSession_unread (s : State) :
    (s.discardSession).unread = s.unread := rfl

@[simp] theorem State.discardSession_inputs (s : State) :
    (s.discardSession).inputs = s.inputs := rfl

@[simp] theorem State.discardSession_trace (s : State) :
    (s.discardSession).trace = s.trace := rfl

@[simp] theorem State.discardSession_port (s : State) :
    (s.discardSession).port = s.port := rfl

@[simp] theorem State.discardSession_freeCount (s : State) :
    (s.discardSession).freeCount = s.freeCount + 1 := rfl

@[simp] theorem State.targetsReact_state (b : Board) (react : Responder → Responder × Option Frame) (s : State) :
    (s.targetsReact b react).state = s.state := rfl

@[simp] theorem State.targetsReact_board (b : Board) (react : Responder → Responder × Option Frame) (s : State) :
    (s.targetsReact b react).board = s.board := rfl

@[simp] theorem State.targetsReact_len (b : Board) (react : Responder → Responder × Option Frame) (s : State) :
    (s.targetsReact b react).len = s.len := rfl

@[simp] theorem State.targetsReact_crc (b : Board) (react : Responder → Responder × Option Frame) (s : State) :
    (s.targetsReact b react).crc = s.crc := rfl

@[simp] theorem State.targetsReact_offset (b : Board) (react : Responder → Responder × Option Frame) (s : State) :
    (s.targetsReact b react).offset = s.offset := rfl

@[simp] theorem State.targetsReact_img (b : Board) (react : Responder → Responder × Option Frame) (s : State) :
    (s.targetsReact b react).img = s.img := rfl

@[simp] theorem State.targetsReact_cause (b : Board) (react : Responder → Responder × Option Frame) (s : State) :
    (s.targetsReact b react).cause = s.cause := rfl

@[simp] theorem State.targetsReact_expected (b : Board) (react : Responder → Responder × Option Frame) (s : State) :
    (s.targetsReact b react).expected = s.expected := rfl

@[simp] theorem State.targetsReact_actual (b : Board) (react : Responder → Responder × Option Frame) (s : State) :
    (s.targetsReact b react).actual = s.actual := rfl

@[simp] theorem State.targetsReact_status (b : Board) (react : Responder → Responder × Option Frame) (s : State) :
    (s.targetsReact b react).status = s.status := rfl

@[simp] theorem State.targetsReact_nrkind (b : Board) (react : Responder → Responder × Option Frame) (s : State) :
    (s.targetsReact b react).nrkind = s.nrkind := rfl

@[simp] theorem State.targetsReact_presub (b : Board) (react : Responder → Responder × Option Frame) (s : State) :
    (s.targetsReact b react).presub = s.presub := rfl

@[simp] theorem State.targetsReact_fstate (b : Board) (react : Responder → Responder × Option Frame) (s : State) :
    (s.targetsReact b react).fstate = s.fstate := rfl

@[simp] theorem State.targetsReact_dsq (b : Board) (react : Responder → Responder × Option Frame) (s : State) :
    (s.targetsReact b react).dsq = s.dsq := rfl

@[simp] theorem State.targetsReact_channel (b : Board) (react : Responder → Responder × Option Frame) (s : State) :
    (s.targetsReact b react).channel = s.channel := rfl

@[simp] theorem State.targetsReact_params (b : Board) (react : Responder → Responder × Option Frame) (s : State) :
    (s.targetsReact b react).params = s.params := rfl

@[simp] theorem State.targetsReact_targets (b : Board) (react : Responder → Responder × Option Frame) (s : State) :
    (s.targetsReact b react).targets = s.targets.map (fun r => if r.me = b then (react r).1 else r) := rfl

@[simp] theorem State.targetsReact_toTarget (b : Board) (react : Responder → Responder × Option Frame) (s : State) :
    (s.targetsReact b react).toTarget = s.toTarget := rfl

@[simp] theorem State.targetsReact_toHost (b : Board) (react : Responder → Responder × Option Frame) (s : State) :
    (s.targetsReact b react).toHost = s.toHost ++ s.targets.filterMap (fun r => if r.me = b then (react r).2 else none) := rfl

@[simp] theorem State.targetsReact_unread (b : Board) (react : Responder → Responder × Option Frame) (s : State) :
    (s.targetsReact b react).unread = s.unread := rfl

@[simp] theorem State.targetsReact_inputs (b : Board) (react : Responder → Responder × Option Frame) (s : State) :
    (s.targetsReact b react).inputs = s.inputs := rfl

@[simp] theorem State.targetsReact_trace (b : Board) (react : Responder → Responder × Option Frame) (s : State) :
    (s.targetsReact b react).trace = s.trace := rfl

@[simp] theorem State.targetsReact_port (b : Board) (react : Responder → Responder × Option Frame) (s : State) :
    (s.targetsReact b react).port = s.port := rfl

@[simp] theorem State.targetsReact_freeCount (b : Board) (react : Responder → Responder × Option Frame) (s : State) :
    (s.targetsReact b react).freeCount = s.freeCount := rfl

end Sys2Proof.Machine
end

