-- ==== Sys2Proof/Laws/Ops.lean ====
section
/-! SUPPORT. For each shared operation, once, everything it can do: if it answers `next t`, then one
of these cases holds. Later proofs cite these and do not unfold the operation. -/

namespace Sys2Proof.Machine

/-- The failures of CHECK: the verdicts other than acceptance. -/
def Verdict.isFailure : Verdict → Bool
  | .accepted _ => false
  | .noReport _ => true
  | .malformed => true
  | .mismatch _ => true

/-- CHECK either accepts and runs the rest of its rule, or fails the session. -/
theorem State.check_next {o : RxOutcome} {exp : Byte} {s t : State} {rest : List Byte → Out}
    (h : s.check o exp rest = .next t) :
    (∃ data, checkReport o exp = .accepted data ∧ rest data = .next t) ∨
      ((checkReport o exp).isFailure = true ∧ t = s.rejectReport (checkReport o exp) exp) := by
  unfold State.check at h
  split at h <;> rename_i hv
  · exact .inl ⟨_, hv, h⟩
  all_goals
    right
    rw [hv]
    exact ⟨rfl, by cases h; rfl⟩

/-- A failed CHECK enters Failed from where the session stood and leaves the rest of it alone. -/
theorem State.rejectReport_failed {v : Verdict} (hv : v.isFailure = true) (exp : Byte) (s : State) :
    ∃ c expd act nk, c ≠ Cause.none ∧
      s.rejectReport v exp =
        { s with
          state := .failed, cause := c, fstate := s.state
          expected := expd, actual := act, nrkind := nk } := by
  cases v with
  | accepted d => cases hv
  | noReport k => exact ⟨.noReport, s.expected, s.actual, k, by decide, rfl⟩
  | malformed => exact ⟨.malformedReport, s.expected, s.actual, s.nrkind, by decide, rfl⟩
  | mismatch a => exact ⟨.mismatch, exp, a, s.nrkind, by decide, rfl⟩

/-- What an accepted outcome is: a report of at least eight bytes with the expected subcode. -/
theorem checkReport_accepted {o : RxOutcome} {exp : Byte} {data : List Byte} :
    checkReport o exp = .accepted data ↔
      ∃ f, o = .frame f ∧ decodeCode f.id = Config.codeReport ∧ f.data = data ∧
        8 ≤ data.length ∧ reportSubcode data = exp := by
  cases o with
  | none => simp [checkReport, rfd]
  | frame f =>
    by_cases hc : decodeCode f.id = Config.codeReport
    · by_cases hl : f.data.length < 8
      · simp only [checkReport, rfd, hc, if_true, hl]
        constructor
        · rintro ⟨⟩
        · rintro ⟨g, hg, -, rfl, h8, -⟩
          cases hg
          omega
      · by_cases hs : reportSubcode f.data = exp
        · simp only [checkReport, rfd, hc, if_true, hl, if_false, hs]
          constructor
          · intro h
            cases h
            exact ⟨f, rfl, hc, rfl, by omega, hs⟩
          · rintro ⟨g, hg, -, rfl, -⟩
            cases hg
            rfl
        · simp only [checkReport, rfd, hc, if_true, hl, if_false, hs]
          constructor
          · intro h; cases h
          · rintro ⟨g, hg, -, rfl, -, h⟩
            cases hg
            exact absurd h hs
    · simp only [checkReport, rfd, hc, if_false]
      constructor
      · intro h; cases h
      · rintro ⟨g, hg, h, -⟩
        cases hg
        exact absurd h hc

/-- ADVANCE sends STOP at the end of the image and the next chunk before it. -/
theorem State.advance_next {s t : State} (h : s.advance = .next t) :
    (s.offset = s.len ∧ t = { s.send (buildStop s.board s.crc) with state := .finishing }) ∨
      (s.offset ≠ s.len ∧ s.offset.toNat + 8 ≤ s.len.toNat ∧
        t =
          { State.send (buildData s.board (s.img.paddedBytes s.offset.toNat 8))
              { s with crc := crcOver (s.img.paddedBytes s.offset.toNat 8) s.crc } with
            state := .transferring }) := by
  unfold State.advance at h
  split at h
  · rename_i he
    cases h
    exact .inl ⟨he, rfl⟩
  · rename_i hne
    split at h
    · rename_i s' hs
      unfold State.sendChunk at hs
      split at hs
      · rename_i chunk hm
        obtain ⟨hle, rfl⟩ := memRead_eq_some.1 hm
        cases hs
        cases h
        exact .inr ⟨hne, hle, rfl⟩
      · cases hs
    · cases h

/-- RX in Starting. -/
theorem rxStarting_next {o : RxOutcome} {s t : State} (h : rxStarting o s = .next t) :
    ((∃ data, checkReport o Config.subReady = .accepted data) ∧ s.advance = .next t) ∨
      ((checkReport o Config.subReady).isFailure = true ∧
        t = s.rejectReport (checkReport o Config.subReady) Config.subReady) := by
  rcases State.check_next h with ⟨d, hd, h⟩ | h
  · exact .inl ⟨⟨d, hd⟩, h⟩
  · exact .inr h

/-- RX in Transferring. -/
theorem rxTransferring_next {o : RxOutcome} {s t : State} (h : rxTransferring o s = .next t) :
    ((∃ data, checkReport o (expectedSub s.offset s.len) = .accepted data) ∧
        State.advance { s with offset := s.offset + 8 } = .next t) ∨
      ((checkReport o (expectedSub s.offset s.len)).isFailure = true ∧
        t = s.rejectReport (checkReport o (expectedSub s.offset s.len))
          (expectedSub s.offset s.len)) := by
  rcases State.check_next h with ⟨d, hd, h⟩ | h
  · exact .inl ⟨⟨d, hd⟩, h⟩
  · exact .inr h

/-- RX in Finishing. -/
theorem rxFinishing_next {o : RxOutcome} {s t : State} (h : rxFinishing o s = .next t) :
    (∃ data, checkReport o Config.subDone = .accepted data ∧
      ((reportStatus data = 1 ∧ t = { s with status := reportStatus data, state := .succeeded }) ∨
        (reportStatus data ≠ 1 ∧
          t = State.failFrom .targetFailure { s with status := reportStatus data }))) ∨
      ((checkReport o Config.subDone).isFailure = true ∧
        t = s.rejectReport (checkReport o Config.subDone) Config.subDone) := by
  rcases State.check_next h with ⟨d, hd, h⟩ | h
  · left
    refine ⟨d, hd, ?_⟩
    dsimp only at h
    split at h <;> rename_i hs <;> cases h
    · exact .inl ⟨hs, rfl⟩
    · exact .inr ⟨hs, rfl⟩
  · exact .inr h

/-- RX answers only in a wait state. -/
theorem uploadReceive_next {o : RxOutcome} {s t : State} (h : uploadReceive o s = .next t) :
    (s.state = .starting ∧ rxStarting o s = .next t) ∨
      (s.state = .transferring ∧ rxTransferring o s = .next t) ∨
        (s.state = .finishing ∧ rxFinishing o s = .next t) := by
  unfold uploadReceive at h
  split at h <;> rename_i hs
  · exact .inl ⟨hs, h⟩
  · exact .inr (.inl ⟨hs, h⟩)
  · exact .inr (.inr ⟨hs, h⟩)
  all_goals cases h

/-- LOAD fails its preconditions or creates the session. -/
theorem load_next {board : Nat} {image : Image} {s t : State} (h : load board image s = .next t) :
    s.state = .idle ∧ s.dsq = .idle ∧ board ≤ 15 ∧
      ((∃ p, (image.nseg ≠ 1 ∨ image.base ≠ 0) ∧
          t = State.failFrom .precondition { s with presub := p }) ∨
        (Admitted board image s.params.padPolicy ∧
          t =
            { State.send (buildStart (BitVec.ofNat 4 board)
                  (BitVec.ofNat 16 (paddedLen s.params.padPolicy image.len)))
                { s with
                  board := BitVec.ofNat 4 board
                  img := image
                  len := BitVec.ofNat 16 (paddedLen s.params.padPolicy image.len)
                  crc := crcStart
                  offset := 0
                  cause := .none } with
              state := .starting })) := by
  unfold load at h
  split at h
  · cases h
  rename_i hq
  rw [not_or, not_not, not_not] at hq
  split at h
  · cases h
  rename_i hb
  refine ⟨hq.1, hq.2, by omega, ?_⟩
  split at h
  · rename_i hn
    cases h
    exact .inl ⟨0, .inl hn, rfl⟩
  rename_i hn
  split at h
  · rename_i hz
    cases h
    exact .inl ⟨1, .inr hz, rfl⟩
  rename_i hz
  split at h
  · cases h
  rename_i hp
  split at h
  · cases h
  rename_i hw
  cases h
  refine .inr ⟨⟨by omega, not_not.1 hn, not_not.1 hz, ?_, by simpa using hw⟩, rfl⟩
  simpa [Config.maxPadded] using hp

/-- ABORT fails the session it finds waiting. -/
theorem abort_next {s t : State} (h : abort s = .next t) :
    s.state.isWait = true ∧ t = s.failFrom .aborted := by
  unfold abort at h
  split at h <;> rename_i hw <;> cases h
  exact ⟨hw, rfl⟩

/-- RELEASE discards a finished session; in Idle it only releases the channel. -/
theorem release_next {s t : State} (h : release s = .next t) :
    (s.state.isTerminal = true ∧ t = { s.discardSession with channel := none }) ∨
      (s.state = .idle ∧ t = { s with channel := none }) := by
  unfold release at h
  split at h
  · rename_i ht
    cases h
    exact .inl ⟨ht, rfl⟩
  split at h <;> rename_i hi <;> cases h
  exact .inr ⟨hi, rfl⟩

/-- SCAN sends the PING of board 0. -/
theorem scan_next {s t : State} (h : scan s = .next t) :
    s.params.hasDiscovery = true ∧ s.state = .idle ∧ s.dsq = .idle ∧
      t = { State.send (buildPing 0) s with dsq := .scanning 0 [] } := by
  unfold scan at h
  split at h
  · cases h
  rename_i hd
  split at h <;> rename_i hq <;> cases h
  rw [not_or, not_not, not_not] at hq
  exact ⟨by simpa using hd, hq.1, hq.2, rfl⟩

/-- PING sends the PING of its board. -/
theorem pingBoard_next {board : Nat} {s t : State} (h : pingBoard board s = .next t) :
    s.params.hasDiscovery = true ∧ s.state = .idle ∧ s.dsq = .idle ∧ board ≤ 15 ∧
      t = { State.send (buildPing (BitVec.ofNat 4 board)) s with
            dsq := .pinging (BitVec.ofNat 4 board) } := by
  unfold pingBoard at h
  split at h
  · cases h
  rename_i hd
  split at h
  · cases h
  rename_i hq
  rw [not_or, not_not, not_not] at hq
  split at h <;> rename_i hb <;> cases h
  exact ⟨by simpa using hd, hq.1, hq.2, by omega, rfl⟩

/-- A receive outcome in a DSQ operation ends it with a result or goes on to the next board. -/
theorem discoveryReceive_next {o : RxOutcome} {s t : State}
    (h : discoveryReceive o s = .next t) :
    s.dsq ≠ .idle ∧
      ((∃ r, t = State.log (.result r) { s with dsq := .idle }) ∨
        ∃ board classes,
          t = { State.send (buildPing board) s with dsq := .scanning board classes }) := by
  unfold discoveryReceive at h
  split at h <;> rename_i hd
  · cases h
  · refine ⟨by simp [hd], ?_⟩
    unfold rxScanning at h
    dsimp only at h
    split at h <;> cases h
    · exact .inl ⟨_, rfl⟩
    · exact .inr ⟨_, _, rfl⟩
  · refine ⟨by simp [hd], ?_⟩
    unfold rxPinging at h
    cases h
    exact .inl ⟨_, rfl⟩

/-- A receive outcome goes to the sequencer that waits. -/
theorem hostReceive_next {o : RxOutcome} {s t : State} (h : hostReceive o s = .next t) :
    (s.state.isWait = true ∧ uploadReceive o s = .next t) ∨
      (s.state.isWait = false ∧ discoveryReceive o s = .next t) := by
  unfold hostReceive at h
  split at h <;> rename_i hw
  · exact .inl ⟨hw, h⟩
  · exact .inr ⟨by simpa using hw, h⟩

/-- The reactions of a reference responder to the four commands. -/
inductive Responder.Reaction : (Responder → Responder × Option Frame) → Prop
  | ping : Responder.Reaction Responder.onPing
  | start (len : Half) : Responder.Reaction (Responder.onStart len)
  | data (chunk : List Byte) : Responder.Reaction (Responder.onData chunk)
  | stop (crc : Half) : Responder.Reaction (Responder.onStop crc)

/-- A frame at the targets changes nothing, or has one responder's reaction. -/
theorem targetReceive_next {f : Frame} {s t : State} (h : targetReceive f s = .next t) :
    t = s ∨ ∃ board react, Responder.Reaction react ∧ t = s.targetsReact board react := by
  unfold targetReceive at h
  split at h <;> cases h
  · exact .inr ⟨_, _, .ping, rfl⟩
  · exact .inr ⟨_, _, .start _, rfl⟩
  · exact .inr ⟨_, _, .data _, rfl⟩
  · exact .inr ⟨_, _, .stop _, rfl⟩
  all_goals exact .inl rfl

/-- At CBU every row of the opcode table is the receive outcome that its frame is. -/
theorem exec_host (i : Instr) {s : State} (hp : s.port = .host) :
    exec i s = hostReceive (.frame (encode i)) s := by
  cases i <;>
    simp [exec, execPing, execStart, execData, execStop, execReportPong, execReportReady,
      execReportReadyFinal, execReportDone, encode, hp]

/-- At the targets a row has one responder's reaction, or, for a report, none. -/
theorem exec_target (i : Instr) {s t : State} (hp : s.port = .target) (h : exec i s = .next t) :
    t = s ∨ ∃ board react, Responder.Reaction react ∧ t = s.targetsReact board react := by
  cases i <;>
    simp only [exec, execPing, execStart, execData, execStop, execReportPong, execReportReady,
      execReportReadyFinal, execReportDone, hp] at h <;>
    cases h
  · exact .inr ⟨_, _, .ping, rfl⟩
  · exact .inr ⟨_, _, .start _, rfl⟩
  · exact .inr ⟨_, _, .data _, rfl⟩
  · exact .inr ⟨_, _, .stop _, rfl⟩
  all_goals exact .inl rfl

/-- Everything an event can do, on the state that already holds it in its trace. -/
inductive ActsTo (s : State) : Event → State → Prop
  | load {board image t} (h : load board image s = .next t) : ActsTo s (.load board image) t
  | scan {t} (h : scan s = .next t) : ActsTo s .scan t
  | ping {board t} (h : pingBoard board s = .next t) : ActsTo s (.ping board) t
  | abort {t} (h : abort s = .next t) : ActsTo s .abort t
  | release {t} (h : release s = .next t) : ActsTo s .release t
  | openChannel (rate) : ActsTo s (.openChannel rate) { s with channel := some rate }
  | timeout {t} (h : hostReceive .none s = .next t) : ActsTo s (.rx .none) t
  | received {f g t} (h : hostReceive (.frame g) (s.atPort .host) = .next t) :
      ActsTo s (.rx (.frame f)) t
  | ignored (f) : ActsTo s (.deliver f) (s.atPort .target)
  | delivered {f board react} (h : Responder.Reaction react) :
      ActsTo s (.deliver f) ((s.atPort .target).targetsReact board react)

/-- A step does nothing, or takes the next event and does what that event can do. -/
theorem step_next {s t : State} (h : step s = .next t) :
    (s.nextEvent = none ∧ t = s) ∨
      ∃ e s', s.nextEvent = some (e, s') ∧ ActsTo (s'.log (.event e)) e t := by
  unfold step fetch at h
  split at h <;> rename_i hf <;> split at hf <;> rename_i hn
  · cases hf
  · rename_i i s₁ e s'
    refine .inr ⟨e, s', hn, ?_⟩
    unfold act at hf
    split at hf <;> try cases hf
    all_goals
      unfold fetchFrame at hf
      split at hf
      swap
      · cases hf
      split at hf <;> cases hf
    · exact .received (by rw [exec_host _ (by rfl)] at h; exact h)
    · rcases exec_target _ (by rfl) h with rfl | ⟨b, r, hr, rfl⟩
      · exact .ignored _
      · exact .delivered hr
  · cases hf
    cases h
    exact .inl ⟨hn, rfl⟩
  · rename_i o e s'
    refine .inr ⟨e, s', hn, ?_⟩
    unfold act at hf
    split at hf <;> try (cases hf)
    · exact .load h
    · exact .scan h
    · exact .ping h
    · exact .abort h
    · exact .release h
    · cases h; exact .openChannel _
    · exact .timeout h
    all_goals
      unfold fetchFrame at hf
      split at hf
      swap
      · cases hf
        cases h
      split at hf <;> cases hf
    · exact .received (g := _) h
    · rcases targetReceive_next h with rfl | ⟨b, r, hr, rfl⟩
      · exact .ignored _
      · exact .delivered hr

/-- What the channel gives a wait is taken from the frames that reached CBU. -/
theorem State.channelOutcome_snd (s : State) (fs : List Frame) (n : Nat) :
    ∃ th un fc, (s.channelOutcome fs n).2 =
      { s with toHost := th, unread := un, freeCount := fc } := by
  induction fs generalizing n with
  | nil =>
    unfold State.channelOutcome
    split
    · exact ⟨_, _, _, rfl⟩
    · exact ⟨s.toHost, _, _, rfl⟩
  | cons f rest ih =>
    unfold State.channelOutcome
    split
    · exact ⟨s.toHost, _, _, rfl⟩
    · exact ih (n + 1)

/-- Taking an event from where it stands changes only the lists it stands in. -/
theorem State.nextEvent_some {s s' : State} {e : Event} (h : s.nextEvent = some (e, s')) :
    ∃ ins tt th un fc, s' =
      { s with inputs := ins, toTarget := tt, toHost := th, unread := un, freeCount := fc } := by
  unfold State.nextEvent at h
  split at h
  · cases h; exact ⟨_, _, _, _, _, rfl⟩
  split at h
  · cases h; exact ⟨_, _, _, _, _, rfl⟩
  split at h
  · cases h
    obtain ⟨th, un, fc, h⟩ := s.channelOutcome_snd s.unread s.freeCount
    exact ⟨_, _, _, _, _, h⟩
  · cases h

end Sys2Proof.Machine
end

