-- ==== Sys2Proof/Laws/PerInstr.lean ====
section
/-! SUPPORT. Statements about every instruction as syntax, one lemma per constructor. -/

namespace Sys2Proof.Laws.FrameFits

/-- The frame of a well-formed instruction is a CAN frame whose identifier carries the protocol's BASE
field and one of the five defined codes, and whose length is the one R82 gives that code
(30_encoding R80, R82, R84, R86). -/
def Statement (i : Instr) : Prop :=
  i.WellFormed →
    (encode i).wf = true ∧ baseOk (encode i).id = true ∧
      definedCode (decodeCode (encode i).id).toNat = true ∧
        (encode i).dlc = dlcOfCode (decodeCode (encode i).id)

theorem baseOk_encodeId : ∀ b : Board, ∀ c : Code, baseOk (encodeId b c) = true := by decide

theorem decodeCode_ping : ∀ b : Board, decodeCode (encodeId b Config.codePing) = Config.codePing := by
  decide

theorem decodeCode_start :
    ∀ b : Board, decodeCode (encodeId b Config.codeStart) = Config.codeStart := by decide

theorem decodeCode_data : ∀ b : Board, decodeCode (encodeId b Config.codeData) = Config.codeData := by
  decide

theorem decodeCode_stop : ∀ b : Board, decodeCode (encodeId b Config.codeStop) = Config.codeStop := by
  decide

theorem decodeCode_report :
    ∀ b : Board, decodeCode (encodeId b Config.codeReport) = Config.codeReport := by decide

/-- A report frame of eight bytes fits its row. -/
theorem report_fits (b : Board) (body : ReportBody) (sub : Byte) :
    let f := buildReport b (body.payload sub)
    f.wf = true ∧ baseOk f.id = true ∧ definedCode (decodeCode f.id).toNat = true ∧
      f.dlc = dlcOfCode (decodeCode f.id) := by
  refine ⟨rfl, baseOk_encodeId _ _, ?_, ?_⟩ <;>
    simp only [buildReport, decodeCode_report] <;> rfl

theorem ping (board : Board) : Statement (.ping board) := fun _ =>
  ⟨rfl, baseOk_encodeId _ _, by simp only [encode, buildPing, decodeCode_ping]; rfl,
    by simp only [encode, buildPing, decodeCode_ping]; rfl⟩

theorem start (board : Board) (len : Half) : Statement (.start board len) := fun _ =>
  ⟨rfl, baseOk_encodeId _ _, by simp only [encode, buildStart, decodeCode_start]; rfl,
    by simp only [encode, buildStart, decodeCode_start]; rfl⟩

theorem data (board : Board) (chunk : List Byte) : Statement (.data board chunk) := fun h => by
  have hl : chunk.length = 8 := by simpa [Instr.WellFormed, Instr.wf] using h
  refine ⟨by simp [encode, buildData, Frame.wf, hl], baseOk_encodeId _ _, ?_, ?_⟩
  · simp only [encode, buildData, decodeCode_data]; rfl
  · simp only [encode, buildData, decodeCode_data, Frame.dlc, hl]; rfl

theorem stop (board : Board) (crc : Half) : Statement (.stop board crc) := fun _ =>
  ⟨rfl, baseOk_encodeId _ _, by simp only [encode, buildStop, decodeCode_stop]; rfl,
    by simp only [encode, buildStop, decodeCode_stop]; rfl⟩

theorem reportPong (board : Board) (body : ReportBody) : Statement (.reportPong board body) :=
  fun _ => report_fits _ _ _

theorem reportReady (board : Board) (body : ReportBody) : Statement (.reportReady board body) :=
  fun _ => report_fits _ _ _

theorem reportReadyFinal (board : Board) (body : ReportBody) :
    Statement (.reportReadyFinal board body) := fun _ => report_fits _ _ _

theorem reportDone (board : Board) (body : ReportBody) : Statement (.reportDone board body) :=
  fun _ => report_fits _ _ _

end Sys2Proof.Laws.FrameFits
end

