-- ==== Sys2Proof/Tests/Slice0.lean ====
section
/-! SUPPORT. Tests of the model against vectors of spec/95_test_vectors (its sections are named in the
docstrings), the smoke tests of well-formedness, and for every obligation with hypotheses a witness
that meets them. -/

open Sys2Proof Sys2Proof.Machine

namespace Sys2Proof.Tests

/-! ## Well-formedness -/

/-- A DATA of seven bytes and one of nine are ill-formed (45_frames R252). -/
theorem test_wf_refuses_short_and_long_data :
    (Instr.data 3 [1, 2, 3, 4, 5, 6, 7]).wf = false ∧
      (Instr.data 3 [1, 2, 3, 4, 5, 6, 7, 8, 9]).wf = false := by decide

/-- A frame of nine bytes is no CAN frame (00_scope R12). -/
theorem test_wf_refuses_nine_byte_frame :
    (Frame.mk 0x1B007133#29 [1, 2, 3, 4, 5, 6, 7, 8, 9]).wf = false := by decide

/-- Images whose cells fall, repeat, hold the unlisted value, or lie above L are not canonical. -/
theorem test_wf_refuses_images :
    Image.wf ⟨1, 0, 8, [(2, 1), (1, 1)]⟩ = false ∧ Image.wf ⟨1, 0, 8, [(2, 1), (2, 1)]⟩ = false ∧
      Image.wf ⟨1, 0, 8, [(2, 0)]⟩ = false ∧ Image.wf ⟨1, 0, 8, [(8, 1)]⟩ = false ∧
        Image.wf ⟨1, 0, 8, [(1, 1), (7, 2)]⟩ = true := by decide

/-! ## Decoding, one written word for each row (sections 5.1 and 2)

The identifier stands in bits 28 to 0, `data[k]` in the eight bits from 32+8k up. -/

/-- BASE 0x1B0071, board 7, code 0. -/
theorem test_decode_ping :
    decodeTableWord 32 0b00011011000000000111000101110000 = some (.ping 7) := by decide

/-- Board 9, code 2; bytes 38 12. -/
theorem test_decode_start :
    decodeTableWord 48 0x12381B007192 = some (.start 9 0x1238) := by decide

/-- Board 3, code 3; bytes 01 to 08. -/
theorem test_decode_data :
    decodeTableWord 96 0x08070605040302011B007133 = some (.data 3 [1, 2, 3, 4, 5, 6, 7, 8]) := by
  decide

/-- Board 5, code 4; bytes 3D BB. -/
theorem test_decode_stop : decodeTableWord 48 0xBB3D1B007154 = some (.stop 5 0xBB3D) := by decide

/-- Board 7, code 5, subcode 0; bytes 01 04 02 01 00 00 AA 55. -/
theorem test_decode_pong :
    decodeTableWord 96 0x55AA0000010204011B007175 =
      some (.reportPong 7 ⟨1, 4, 2, 1, 0, 0xAA, 0x55⟩) := by decide

/-- Board 3, code 5, subcode 1. -/
theorem test_decode_ready :
    decodeTableWord 96 0x00000001000000001B007135 =
      some (.reportReady 3 ⟨0, 0, 0, 0, 0, 0, 0⟩) := by decide

/-- Board 3, code 5, subcode 2. -/
theorem test_decode_ready_final :
    decodeTableWord 96 0x00000002000000001B007135 =
      some (.reportReadyFinal 3 ⟨0, 0, 0, 0, 0, 0, 0⟩) := by decide

/-- Board 3, code 5, subcode 3; bytes FF FF FF FF 03 00 FF FF: a failure report (section 5.2). -/
theorem test_decode_done :
    decodeTableWord 96 0xFFFF0003FFFFFFFF1B007135 =
      some (.reportDone 3 ⟨0xFF, 0xFF, 0xFF, 0xFF, 0, 0xFF, 0xFF⟩) := by decide

/-- Code 1, another BASE, a bit above the identifier, subcode 4: no row. -/
theorem test_decode_refuses :
    decodeTableWord 32 0x1B007131 = none ∧ decodeTableWord 32 0x1B007230 = none ∧
      decodeTableWord 32 0x3B007130 = none ∧
        decodeTableWord 96 0x00000004000000001B007135 = none := by decide

/-- The corners of section 2. -/
theorem test_identifiers :
    encodeId 15 5 = 0x1B0071F5#29 ∧ encodeIdChecked 16 0 = none ∧ encodeIdChecked 3 1 = none ∧
      decodeCode 0x1FFFFFF5#29 = 5 ∧ decodeBoard 0x1B0071A5#29 = 10 ∧
        baseOk 0x0B0071A5#29 = false := by decide

/-- The verdicts of section 5.3 that are no command. -/
theorem test_parse_refuses :
    parseCommand ⟨0x1B007135#29, [0, 0, 0]⟩ = .notACommand 3 ∧
      parseCommand ⟨0x1B007132#29, [0x10, 0, 0]⟩ = .malformed 3 2 3 ∧
      parseCommand ⟨0x1B007170#29, [0]⟩ = .malformed 7 0 1 ∧
      parseCommand ⟨0x1B00713F#29, []⟩ = .undefined 3 15 ∧
      parseCommand ⟨0x00000132#29, [0x10, 0]⟩ = .foreign := by decide

/-! ## The checksum and the padding (sections 3 and 4) -/

/-- Section 3.2 and a row of the table of section 3.1. -/
theorem test_crc_update :
    crcUpdate 0x1234 0x56 = 0xE993 ∧ crcUpdate 0xFFFF 0x00 = 0x40BF ∧
      crcUpdateSerial 0x1234 0x56 = 0xE993 ∧ crcUpdateTable 0x1234 0x56 = 0xE993 ∧
        crcTable 0xF3 = 0x4540 := by decide +kernel

/-- Section 3.3: "123456789" and the padded image of P2. -/
theorem test_crc_over :
    crcOver [0x31, 0x32, 0x33, 0x34, 0x35, 0x36, 0x37, 0x38, 0x39] 0 = 0xBB3D ∧
      crcOver [9, 10, 11, 12, 13, 0, 0, 0] 0xC4F0 = 0x34F3 := by decide +kernel

/-- Section 4, the rows for 0, 13, 16 and 65528. -/
theorem test_padding :
    paddedLen .smallestMultiple 0 = 0 ∧ paddedLen .literal 0 = 8 ∧
      paddedLen .smallestMultiple 13 = 16 ∧ paddedLen .literal 13 = 16 ∧
      paddedLen .smallestMultiple 16 = 16 ∧ paddedLen .literal 16 = 24 ∧
      paddedLen .smallestMultiple 65528 = 65528 ∧ paddedLen .literal 65528 = 65536 := by decide

/-! ## States for the tests -/

/-- The image of P2: the bytes 01 to 0D. -/
def image13 : Image := Image.ofBytes 1 0 [1, 2, 3, 4, 5, 6, 7, 8, 9, 10, 11, 12, 13]

/-- An image without bytes (P9). -/
def image0 : Image := Image.ofBytes 1 0 []

/-- A report body with this status and zeros. -/
def body (status : Byte) : ReportBody := ⟨0, 0, 0, 0, status, 0, 0⟩

/-- A session of P2 at board 3 that stands in this state. -/
def session (st : SeqState) (offset crc : Half) : State :=
  { State.reset with
    state := st, board := 3, len := 16, offset := offset, crc := crc, img := image13 }

/-- Idle with one event to come. -/
def before (e : Event) : State := { State.reset with inputs := [e] }

/-- A DSQ operation under way. -/
def discovering (d : Dsq) : State := { State.reset with dsq := d }

/-- A responder at board 3 that stands in this state. -/
def responder (st : RState) (rlen rcount rcrc : Half) : Responder :=
  { Responder.fresh 3 with rstate := st, rlen := rlen, rcount := rcount, rcrc := rcrc }

/-- These responders, with the frame of this step arriving at the targets. -/
def atTargets (rs : List Responder) : State := { State.reset with targets := rs, port := .target }

/-- What a test reads of an outcome. -/
def read {α : Type} (get : State → α) : Out → Option α
  | .next s => some (get s)
  | .fault _ => none
  | .refused _ => none

/-! ## One step (sections 7 and 8) -/

/-- P2: LOAD of 13 bytes sends START 16. -/
theorem test_load :
    read (fun t => (t.state, t.len, t.crc, t.toTarget)) (step (before (.load 3 image13))) =
      some (.starting, 16, 0, [⟨0x1B007132#29, [0x10, 0]⟩]) := by decide

/-- P10: two segments fail without traffic. -/
theorem test_load_segments :
    read (fun t => (t.state, t.cause, t.presub, t.toTarget))
        (step (before (.load 3 { image13 with nseg := 2 }))) =
      some (.failed, .precondition, 0, []) := by decide

/-- P2, T9: READY in Starting sends the bytes 01 to 08 and CRC becomes 0xC4F0. -/
theorem test_ready_starting :
    read (fun t => (t.state, t.crc, t.toTarget)) (exec (.reportReady 3 (body 0)) (session .starting 0 0)) =
      some (.transferring, 0xC4F0, [⟨0x1B007133#29, [1, 2, 3, 4, 5, 6, 7, 8]⟩]) := by decide +kernel

/-- P3: READY to the last chunk is a mismatch, 2 expected and 1 found. -/
theorem test_ready_to_last_chunk :
    read (fun t => (t.state, t.cause, t.expected, t.actual, t.offset))
        (exec (.reportReady 3 (body 0)) (session .transferring 8 0x34F3)) =
      some (.failed, .mismatch, 2, 1, 8) := by decide

/-- P2, T12: READY_FINAL to the last chunk sends STOP with F3 34. -/
theorem test_ready_final :
    read (fun t => (t.state, t.offset, t.toTarget))
        (exec (.reportReadyFinal 3 (body 0)) (session .transferring 8 0x34F3)) =
      some (.finishing, 16, [⟨0x1B007134#29, [0xF3, 0x34]⟩]) := by decide

/-- READY_FINAL before the last chunk is a mismatch. -/
theorem test_ready_final_early :
    read (fun t => (t.state, t.expected, t.actual))
        (exec (.reportReadyFinal 3 (body 0)) (session .transferring 0 0xC4F0)) =
      some (.failed, 1, 2) := by decide

/-- P2, T13, and P11, T14: the status of DONE decides. -/
theorem test_done :
    read (fun t => (t.state, t.cause, t.status))
        (exec (.reportDone 3 (body 1)) (session .finishing 16 0x34F3)) =
      some (.succeeded, .none, 1) ∧
    read (fun t => (t.state, t.cause, t.status, t.fstate))
        (exec (.reportDone 3 (body 0)) (session .finishing 16 0x34F3)) =
      some (.failed, .targetFailure, 0, .finishing) := by decide

/-- P7: DONE from board 10 is accepted in a session of board 3. -/
theorem test_done_other_board :
    read (fun t => t.state) (exec (.reportDone 10 (body 1)) (session .finishing 16 0x34F3)) =
      some .succeeded := by decide

/-- A PONG in a wait of USQ is a mismatch with 0 found (45_frames R256). -/
theorem test_pong_in_upload :
    read (fun t => (t.cause, t.expected, t.actual))
        (exec (.reportPong 3 (body 0)) (session .starting 0 0)) =
      some (.mismatch, 1, 0) := by decide

/-- P8 and its variant: board 7's PONG is OK in its own window and ERR in board 8's. -/
theorem test_pong_in_scan :
    read (fun t => (t.dsq, t.toTarget)) (exec (.reportPong 7 (body 0)) (discovering (.scanning 7 []))) =
      some (.scanning 8 [.ok], [⟨0x1B007180#29, []⟩]) ∧
    read (fun t => t.dsq) (exec (.reportPong 7 (body 0)) (discovering (.scanning 8 []))) =
      some (.scanning 9 [.err]) := by decide

/-- P6: a foreign frame in a wait is no report. -/
theorem test_foreign_frame :
    read (fun t => (t.state, t.cause, t.nrkind, t.crc))
        (step { session .transferring 0 0xC4F0 with
          inputs := [.rx (.frame ⟨0x0CF00400#29, [0xF0, 0xFF, 0x7D, 0, 0, 0, 0xFF, 0xFF]⟩)] }) =
      some (.failed, .noReport, 1, 0xC4F0) := by decide

/-- P12: ABORT in mid-transfer sends nothing. -/
theorem test_abort :
    read (fun t => (t.state, t.cause, t.fstate, t.toTarget))
        (step { session .transferring 0 0xC4F0 with inputs := [.abort] }) =
      some (.failed, .aborted, .transferring, []) := by decide

/-- A PING at CBU's receiver ends its wait (section 6). -/
theorem test_ping_at_host :
    read (fun t => (t.cause, t.nrkind)) (exec (.ping 3) (session .starting 0 0)) =
      some (.noReport, 1) := by decide

/-- A PING at the targets is answered by its board alone, with its version (46 R283). -/
theorem test_ping_at_target :
    read (fun t => t.toHost)
        (exec (.ping 7)
          (atTargets [Responder.fresh 3, { Responder.fresh 7 with vmaj := 1, vmin := 4, vpat := 2 }])) =
      some [⟨0x1B007175#29, [1, 4, 2, 1, 0, 0, 0, 0]⟩] := by decide

/-- START 16 at its target is answered READY; START 13 is met with silence (46 R284, R285). -/
theorem test_start_at_target :
    read (fun t => (t.targets, t.toHost)) (exec (.start 3 16) (atTargets [responder .full 8 8 0x1234])) =
      some ([responder .receiving 16 0 0], [⟨0x1B007135#29, [0, 0, 0, 0, 1, 0, 0, 0]⟩]) ∧
    read (fun t => t.toHost) (exec (.start 3 13) (atTargets [Responder.fresh 3])) = some [] := by
  decide

/-- P8: a wait of SCAN with no answer is NO_RESPONSE, and the PING of the next board is sent. -/
theorem test_no_response_in_scan :
    read (fun t => (t.dsq, t.toTarget)) (step (discovering (.scanning 0 []))) =
      some (.scanning 1 [.noResponse], [⟨0x1B007110#29, []⟩]) := by decide

/-- A reply that came before the present wait does not count as an arrival of it. -/
theorem test_send_leaves_old_replies_behind :
    read (fun t => (t.toHost, t.unread))
        (step { before .scan with toHost := [buildReport 3 []], unread := [buildReport 4 []] }) =
      some ([], [buildReport 4 [], buildReport 3 []]) := by decide

/-- The last chunk of P2 fills the target, which answers READY_FINAL (46 R285). -/
theorem test_data_at_target :
    read (fun t => (t.targets, t.toHost))
        (exec (.data 3 [9, 10, 11, 12, 13, 0, 0, 0])
          (atTargets [responder .receiving 16 8 0xC4F0])) =
      some ([responder .full 16 16 0x34F3], [⟨0x1B007135#29, [0, 0, 0, 0, 2, 0, 0, 0]⟩]) := by
  decide +kernel

/-- STOP with the right CRC is answered status 1, with a wrong one status 0 (46 R286, P11). -/
theorem test_stop_at_target :
    read (fun t => t.toHost) (exec (.stop 3 0x34F3) (atTargets [responder .full 16 16 0x34F3])) =
      some [⟨0x1B007135#29, [0, 0, 0, 0, 3, 1, 0, 0]⟩] ∧
    read (fun t => t.toHost) (exec (.stop 3 0xDC9F) (atTargets [responder .full 8 8 0x1C5E])) =
      some [⟨0x1B007135#29, [0, 0, 0, 0, 3, 0, 0, 0]⟩] := by decide

/-- A placed report is the next step's outcome, a placed command the next delivery. -/
theorem test_placed_words_run :
    read (fun t => (t.dsq, t.results))
        (step (State.reset.withFetchWord 96 0x55AA0000010204011B007175)) =
      some (.idle, [.ping (.pongInfo 1 4 2 1 true 0xAA 0x55)]) ∧
    read (fun t => t.toHost) (step (State.reset.withFetchWord 32 0x1B007130)) =
      some [⟨0x1B007135#29, [0, 0, 0, 1, 0, 0, 0, 0]⟩] := by decide

/-! ## Witnesses: concrete states and operands that meet the hypotheses of the obligations -/

theorem witness_DecodeInvertsEncode :
    (Instr.data 15 [1, 2, 3, 4, 5, 6, 7, 8]).WellFormed ∧ (Instr.stop 0 0xFFFF).WellFormed := by decide

theorem witness_DecodedFrameIsItsRowsFrame :
    decode ⟨0x1B0071F2#29, [0xF8, 0xFF]⟩ = .instr (.start 15 0xFFF8) := by decide

theorem witness_IdentifiersNeverCollide : encodeId 15 5 = encodeId (BitVec.ofNat 4 15) (2 + 3) := by
  decide

theorem witness_EncodeComputesTheFormulaOrRefuses :
    ((15 : Nat) ≤ 15 ∧ ((0 : Nat) = 0 ∨ 2 ≤ 0 ∧ 0 ≤ 5)) ∧
      ((0 : Nat) ≤ 15 ∧ ((5 : Nat) = 0 ∨ 2 ≤ 5 ∧ 5 ≤ 5)) ∧
      ((16 : Nat) > 15 ∨ (0 : Nat) = 1 ∨ 0 > 5) ∧ ((0 : Nat) > 15 ∨ (1 : Nat) = 1 ∨ 1 > 5) ∧
      ((0 : Nat) > 15 ∨ (6 : Nat) = 1 ∨ 6 > 5) := by decide

theorem witness_ParserInvertsBuilders : ([1, 2, 3, 4, 5, 6, 7, 8] : List Byte).length = 8 := by decide

theorem witness_ChecksumUpdateIsInjective : crcUpdate 0x1234 0x56 = crcUpdate (0x1233 + 1) 0x56 := by
  decide +kernel

theorem witness_ChecksumIsLinear :
    ([0x12, 0x34, 0x56, 0x78] : List Byte).length = ([0xFF, 0x00, 0xAA, 0x55] : List Byte).length := by
  decide

theorem witness_PaddingFollowsThePolicy :
    ((16 : Nat) % 8 = 0 ∧ 13 ≤ 16) ∧ (13 : Nat) % 8 ≠ 0 ∧ (16 : Nat) % 8 = 0 ∧ (0 : Nat) % 8 = 0 := by
  decide

/-- Two buffers that differ in nothing but how their image is written. -/
theorem witness_CanonicalImagesReadAlikeAreEqual :
    let i := Image.ofBytes 1 0 [7, 0]
    let j : Image := ⟨1, 0, 2, [(0, 7)]⟩
    i.wf = true ∧ j.wf = true ∧ i.nseg = j.nseg ∧ i.base = j.base ∧ i.len = j.len ∧
      ∀ a, i.padded a = j.padded a := by
  exact ⟨by decide, by decide, rfl, rfl, rfl, fun _ => rfl⟩

theorem witness_LoadCreatesTheSession :
    (before (.load 15 image13)).inputs = [.load 15 image13] ∧ (before (.load 15 image13)).quiet ∧
      Admitted 15 image13 .smallestMultiple ∧ Admitted 0 image0 .literal ∧
        Admitted 0 ⟨1, 0, 65528, []⟩ .smallestMultiple := by decide

theorem witness_LoadFailsItsPreconditionsSilently :
    let two : Image := ⟨2, 0, 13, []⟩
    let high : Image := ⟨1, 0x1000, 13, []⟩
    ((before (.load 15 two)).inputs = [.load 15 two] ∧ (before (.load 15 two)).quiet ∧
      (15 : Nat) ≤ 15 ∧ (two.nseg ≠ 1 ∨ two.base ≠ 0)) ∧
    ((before (.load 0 high)).inputs = [.load 0 high] ∧ (before (.load 0 high)).quiet ∧
      (0 : Nat) ≤ 15 ∧ (high.nseg ≠ 1 ∨ high.base ≠ 0)) := by decide

theorem witness_LoadOutsideItsDomainIsRefused :
    (before (.load 16 image13)).inputs = [.load 16 image13] ∧ (before (.load 16 image13)).quiet ∧
      (16 : Nat) > 15 ∧
      (before (.load 15 ⟨1, 0, 65529, []⟩)).inputs = [.load 15 ⟨1, 0, 65529, []⟩] ∧
      (before (.load 15 ⟨1, 0, 65529, []⟩)).quiet ∧ paddedLen .smallestMultiple 65529 > 65535 := by
  decide

theorem witness_EventsOutsideTheTableHaveNoStep :
    let s := { session .failed 0 0 with inputs := [.load 3 image13] }
    let d := { discovering (.scanning 15 []) with inputs := [.load 3 image13] }
    let u := { session .succeeded 16 0 with inputs := [.abort] }
    let v := { session .failed 0 0 with inputs := [.rx .none] }
    let f : RxOutcome := .frame (buildPing 3)
    let x := { State.reset with inputs := [.rx f] }
    let w := { session .starting 0 0 with inputs := [.release] }
    (s.inputs = [.load 3 image13] ∧ (s.state ≠ .idle ∨ s.dsq ≠ .idle)) ∧
      (d.inputs = [.load 3 image13] ∧ (d.state ≠ .idle ∨ d.dsq ≠ .idle)) ∧
      (u.inputs = [.abort] ∧ u.state.isWait = false) ∧
      (v.inputs = [.rx .none] ∧ RxOutcome.none.wf = true ∧ v.state.isWait = false ∧ v.dsq = .idle) ∧
      (x.inputs = [.rx f] ∧ f.wf = true ∧ x.port = .host ∧ x.state.isWait = false ∧
        x.dsq = .idle) ∧
      (w.inputs = [.release] ∧ w.state.isWait = true) := by decide

theorem witness_OpeningGivesTheChannelHandle :
    (before (.openChannel 250000)).inputs = [.openChannel 250000] := by decide

theorem witness_AbortFailsTheSession :
    { session .finishing 16 0 with inputs := [.abort] }.inputs = [.abort] ∧
      { session .finishing 16 0 with inputs := [.abort] }.state.isWait = true := by decide

theorem witness_ReleaseReturnsToIdle :
    (before .release).inputs = [.release] ∧ (before .release).state = .idle ∧
      { session .failed 0 0 with inputs := [.release] }.inputs = [.release] ∧
        { session .failed 0 0 with inputs := [.release] }.state.isTerminal = true := by decide

theorem witness_ReadyInStartingSendsTheFirstChunk :
    let s := { session .starting 0 0 with len := 8 }
    s.port = .host ∧ s.state = .starting ∧ s.offset.toNat + 8 ≤ s.len.toNat := by decide

theorem witness_ReadyForAnEmptyImageSendsStop :
    let s := { session .starting 0 0 with len := 0, img := image0 }
    s.port = .host ∧ s.state = .starting ∧ s.offset = s.len := by decide

theorem witness_ReadyInTransferringSendsTheNextChunk :
    let s := session .transferring 0 0xC4F0
    s.port = .host ∧ s.state = .transferring ∧ s.offset.toNat + 16 ≤ s.len.toNat := by decide

theorem witness_ReadyFinalToTheLastChunkSendsStop :
    let s := session .transferring 8 0x34F3
    s.port = .host ∧ s.state = .transferring ∧ s.offset.toNat + 8 = s.len.toNat := by decide

theorem witness_DoneInFinishingEndsTheSession :
    let s := session .finishing 16 0x34F3
    s.port = .host ∧ s.state = .finishing ∧ (body 1).status = 1 ∧ (body 0).status ≠ 1 := by decide

/-- PONG in each of the three waits, READY where READY_FINAL is expected, and a frame of subcode 255
with a foreign base. -/
theorem witness_UnexpectedSubcodeIsAMismatch :
    let odd : Event := .rx (.frame ⟨0x00000005#29, [0, 0, 0, 0, 0xFF, 0, 0, 0]⟩)
    let s := { session .finishing 16 0 with inputs := [odd] }
    ((session .starting 0 0).port = .host ∧ (session .starting 0 0).state = .starting ∧
      (0 : Byte) ≠ 1) ∧
    ((session .transferring 8 0).state = .transferring ∧
      (1 : Byte) ≠ (if (session .transferring 8 0).offset.toNat + 8 =
        (session .transferring 8 0).len.toNat then 2 else 1)) ∧
    ((session .transferring 0 0).state = .transferring ∧
      (2 : Byte) ≠ (if (session .transferring 0 0).offset.toNat + 8 =
        (session .transferring 0 0).len.toNat then 2 else 1)) ∧
    ((session .finishing 16 0).state = .finishing ∧ (0 : Byte) ≠ 3) ∧
    (s.inputs = [odd] ∧ s.state = .finishing ∧ (0x00000005#29).toNat % 16 = 5 ∧
      (0xFF : Byte) ≠ 3) := by decide

/-- A START at CBU, and a frame of the undefined code 6 as an outcome. -/
theorem witness_CommandFrameIsNoReportToAnUpload :
    let f : Frame := ⟨0x1B007136#29, [0, 0, 0, 0, 1, 0, 0, 0]⟩
    let s := { session .transferring 0 0 with inputs := [.rx (.frame f)] }
    (∃ v, Instr.start 3 16 = .start 3 v) ∧ s.port = .host ∧ s.state.isWait = true ∧
      s.inputs = [.rx (.frame f)] ∧ f.data.length ≤ 8 ∧ f.id.toNat % 16 ≠ 5 :=
  ⟨⟨_, rfl⟩, by decide, by decide, rfl, by decide, by decide⟩

theorem witness_TimeoutFailsTheSession :
    let s := { session .finishing 16 0 with inputs := [.rx .none] }
    s.inputs = [.rx .none] ∧ s.state.isWait = true := by decide

theorem witness_ShortReportFailsTheSession :
    let f : Frame := ⟨0x1B007135#29, [0, 0, 0, 0, 1, 0, 0]⟩
    let s := { session .starting 0 0 with inputs := [.rx (.frame f)] }
    s.inputs = [.rx (.frame f)] ∧ s.state.isWait = true ∧ decodeCode f.id = 5 ∧ f.data.length < 8 := by
  decide

theorem witness_FilterIsBlindToTheSender :
    let f : Frame := ⟨0x1B007135#29, [0, 0, 0, 0, 1, 0, 0, 0]⟩
    let g : Frame := ⟨0x00000005#29, [0, 0, 0, 0, 1, 0, 0, 0]⟩
    decodeCode f.id = 5 ∧ decodeCode g.id = 5 ∧ f.data = g.data ∧
      ((session .starting 0 0).state.isWait = true ∨
        ∃ b, (session .starting 0 0).dsq = .pinging b) ∧
      ((discovering (.pinging 3)).state.isWait = true ∨
        ∃ b, (discovering (.pinging 3)).dsq = .pinging b) :=
  ⟨by decide, by decide, rfl, .inl (by decide), .inr ⟨3, rfl⟩⟩

theorem witness_FilterTestsArrivalAndCode :
    (0x1B0071A5#29).toNat % 16 = 5 ∧ (0x1B007134#29).toNat % 16 ≠ 5 ∧
      (0x1B007136#29).toNat % 16 ≠ 5 := by decide

theorem witness_LastChunkExpectsReadyFinal :
    (8 : Half).toNat + 8 = (16 : Half).toNat ∧ (0 : Half).toNat + 8 ≠ (16 : Half).toNat ∧
      (0xFFF8 : Half).toNat + 8 ≠ (0 : Half).toNat := by decide

theorem witness_ReportAnswersPing :
    let odd : Event := .rx (.frame ⟨0x0CF004F5#29, [1, 4, 2, 1, 0x80, 0, 0xAA, 0x55]⟩)
    let s := { discovering (.pinging 7) with inputs := [odd] }
    s.port = .host ∧ s.state.isWait = false ∧ s.dsq = .pinging 7 ∧ s.inputs = [odd] ∧
      (0x0CF004F5#29).toNat % 16 = 5 := by decide

theorem witness_NoReportFailsPing :
    let s := { discovering (.pinging 7) with inputs := [.rx .none] }
    let f : Frame := ⟨0x0CF00400#29, [1, 2, 3, 4, 5, 6, 7, 8]⟩
    let g : Frame := ⟨0x1B007175#29, [1, 2, 3, 4, 5, 6, 7]⟩
    let u := { discovering (.pinging 7) with inputs := [.rx (.frame f)] }
    let v := { discovering (.pinging 7) with inputs := [.rx (.frame g)] }
    (s.state.isWait = false ∧ s.dsq = .pinging 7 ∧ s.port = .host ∧ s.inputs = [.rx .none]) ∧
      (u.state.isWait = false ∧ u.dsq = .pinging 7 ∧ u.inputs = [.rx (.frame f)] ∧
        f.id.toNat % 16 ≠ 5 ∧ f.data.length ≤ 8) ∧
      (v.state.isWait = false ∧ v.dsq = .pinging 7 ∧ v.inputs = [.rx (.frame g)] ∧
        g.id.toNat % 16 = 5 ∧ g.data.length < 8) := by decide

theorem witness_ScanClassifiesTheFrameAndGoesOn :
    (Instr.reportPong 15 (body 0)).WellFormed ∧ (discovering (.scanning 15 [])).port = .host ∧
      (discovering (.scanning 15 [])).state.isWait = false ∧
      (discovering (.scanning 15 [])).dsq = .scanning 15 [] ∧
      (discovering (.scanning 14 [])).dsq = .scanning 14 [] ∧
      (∃ b, Instr.reportPong 15 (body 0) = .reportPong 15 b) ∧
      ¬ ∃ b, Instr.reportPong 15 (body 0) = .reportPong 14 b := by
  refine ⟨by decide, by decide, by decide, by decide, by decide, ⟨_, rfl⟩, ?_⟩
  rintro ⟨b, hb⟩
  exact absurd (Instr.reportPong.inj hb).1 (by decide)

/-- The outcomes' classes at board 15: NONE, its PONG, and its PONG cut to seven bytes. -/
theorem witness_ScanClassifiesTheFrameAndGoesOn_outcomes :
    let pong : Frame := ⟨0x1B0071F5#29, [1, 4, 2, 1, 0, 0, 0, 0]⟩
    let short : Frame := ⟨0x1B0071F5#29, [1, 4, 2, 1, 0, 0, 0]⟩
    let s := { discovering (.scanning 15 []) with inputs := [.rx (.frame pong)] }
    let u := { discovering (.scanning 14 []) with inputs := [.rx .none] }
    (s.state.isWait = false ∧ s.dsq = .scanning 15 [] ∧ s.inputs = [.rx (.frame pong)] ∧
      u.state.isWait = false ∧ u.dsq = .scanning 14 [] ∧ u.inputs = [.rx .none]) ∧
    (pong.data.length ≤ 8 ∧ pong.id.toNat = 0x1B007105 + 16 * (15 : Board).toNat ∧
      pong.data.length = 8 ∧ pong.data[4]? = some 0) ∧
    (short.data.length ≤ 8 ∧ ¬ (short.id.toNat = 0x1B007105 + 16 * (15 : Board).toNat ∧
      short.data.length = 8 ∧ short.data[4]? = some 0)) ∧
    (pong.data.length ≤ 8 ∧ ¬ (pong.id.toNat = 0x1B007105 + 16 * (14 : Board).toNat ∧
      pong.data.length = 8 ∧ pong.data[4]? = some 0)) := by decide

theorem witness_ScanVisitsEveryBoard :
    let os := List.replicate 16 RxOutcome.none
    let s := { State.reset with inputs := .scan :: (os.map Event.rx ++ []) }
    s.quiet ∧ s.params.hasDiscovery = true ∧ os.length = 16 ∧ os.all RxOutcome.wf = true ∧
      s.inputs = .scan :: (os.map Event.rx ++ []) := by decide

theorem witness_DiscoveryBeginsOnlyWhenQuiet :
    let off (e : Event) := { before e with params := ⟨.literal, false⟩ }
    let busy (e : Event) := { session .failed 0 0 with inputs := [e] }
    let twice (e : Event) := { discovering (.pinging 3) with inputs := [e] }
    (∀ e ∈ [Event.ping 3, Event.scan],
      ((off e).inputs = [e] ∧ (off e).params.hasDiscovery = false) ∧
      ((busy e).inputs = [e] ∧ (busy e).params.hasDiscovery = true ∧ ¬ (busy e).quiet) ∧
      ((twice e).inputs = [e] ∧ (twice e).params.hasDiscovery = true ∧ ¬ (twice e).quiet)) ∧
      ((before (.ping 16)).inputs = [.ping 16] ∧ (before (.ping 16)).quiet ∧
        (before (.ping 16)).params.hasDiscovery = true ∧ (16 : Nat) > 15) ∧
      ((before (.ping 15)).inputs = [.ping 15] ∧ (before (.ping 15)).quiet ∧
        (before (.ping 15)).params.hasDiscovery = true ∧ (15 : Nat) ≤ 15) ∧
      ((before .scan).inputs = [.scan] ∧ (before .scan).quiet ∧
        (before .scan).params.hasDiscovery = true) := by decide

theorem witness_PingIsAnsweredByItsBoard : (atTargets [Responder.fresh 3]).port = .target := by decide

theorem witness_StartResetsTheTargetsProgress :
    (atTargets [Responder.fresh 3]).port = .target ∧ (0 : Half).toNat % 8 = 0 ∧
      (0xFFF8 : Half).toNat % 8 = 0 ∧ (13 : Half).toNat % 8 ≠ 0 := by decide

theorem witness_DataIsFoldedAndCountedByTheTarget :
    let more := responder .receiving 16 0 0
    let last := responder .receiving 16 8 0xC4F0
    let full := responder .full 16 16 0x34F3
    ([1, 2, 3, 4, 5, 6, 7, 8] : List Byte).length = 8 ∧
      ((atTargets [more]).port = .target ∧ (atTargets [more]).targets = [more] ∧
        more.rstate = .receiving ∧ more.rcount + 8 ≠ more.rlen) ∧
      ((atTargets [last]).port = .target ∧ (atTargets [last]).targets = [last] ∧
        last.rstate = .receiving ∧ last.rcount + 8 = last.rlen) ∧
      ((atTargets [full]).port = .target ∧ (atTargets [full]).targets = [full] ∧
        full.rstate ≠ .receiving) := by decide

theorem witness_StopIsAnsweredWithTheStatus :
    let full := responder .full 16 16 0x34F3
    let early := responder .receiving 16 8 0xC4F0
    let yes := { responder .receiving 16 8 0xC4F0 with policy := .alwaysSuccess }
    ((atTargets [full]).port = .target ∧ (atTargets [full]).targets = [full] ∧
      full.rstate = .full) ∧
      ((atTargets [early]).targets = [early] ∧ early.rstate ≠ .full ∧ early.policy = .crcCheck) ∧
      ((atTargets [yes]).targets = [yes] ∧ yes.rstate ≠ .full ∧ yes.policy = .alwaysSuccess) := by
  decide

theorem witness_TargetsIgnoreWhatIsNotForThem :
    (atTargets [Responder.fresh 3]).port = .target ∧
      ∀ r ∈ (atTargets [Responder.fresh 3]).targets, r.me ≠ 4 := by decide

/-- A foreign START, an undefined code, and the four commands with a wrong length. -/
theorem witness_TargetsIgnoreWhatIsNotForThem_frames :
    ∀ f ∈ [Frame.mk 0x00000132#29 [0x10, 0], ⟨0x1B007131#29, []⟩, ⟨0x1B007136#29, []⟩,
        ⟨0x1B007130#29, [0]⟩, ⟨0x1B007132#29, [0x10, 0, 0]⟩, ⟨0x1B007134#29, []⟩,
        ⟨0x1B007133#29, [1, 2, 3, 4, 5, 6, 7]⟩],
      { atTargets [Responder.fresh 3] with inputs := [.deliver f] }.inputs = [.deliver f] ∧
        f.data.length ≤ 8 ∧
        (f.id.toNat / 256 ≠ 0x1B0071 ∨ f.id.toNat % 16 = 1 ∨ f.id.toNat % 16 ≥ 5 ∨
          f.id.toNat % 16 = 0 ∧ f.data.length ≠ 0 ∨
          (f.id.toNat % 16 = 2 ∨ f.id.toNat % 16 = 4) ∧ f.data.length ≠ 2 ∨
          f.id.toNat % 16 = 3 ∧ f.data.length ≠ 8) := by decide

theorem witness_StepExecutesTheArrivingRow :
    let f : Frame := ⟨0x1B007130#29, []⟩
    decode f = .instr (.ping 3) ∧ (before (.rx (.frame f))).nextEvent = some (.rx (.frame f), State.reset) ∧
      (before (.deliver f)).nextEvent = some (.deliver f, State.reset) := by decide

theorem witness_NextEventFollowsTheInputsThenTheChannel :
    (before .scan).inputs = [.scan] ∧
      { State.reset with toTarget := [buildPing 3] }.inputs = [] ∧
      { State.reset with toTarget := [buildPing 3] }.toTarget = [buildPing 3] ∧
      (session .starting 0 0).inputs = [] ∧ (session .starting 0 0).toTarget = [] ∧
      (session .starting 0 0).unread = [] ∧ (session .starting 0 0).toHost = [] ∧
      { session .starting 0 0 with unread := [buildPing 3] }.unread = [buildPing 3] ∧
      { session .starting 0 0 with toHost := [buildPing 3] }.toHost = [buildPing 3] ∧
      (session .starting 0 0).state.isWait = true ∧ (discovering (.pinging 3)).dsq ≠ .idle ∧
      State.reset.state.isWait = false ∧ State.reset.dsq = .idle := by decide

/-- One instruction that runs at each node. -/
theorem witness_InstructionFrame :
    (∃ t, exec (.ping 3) (atTargets [Responder.fresh 3]) = .next t) ∧
      ∃ t, exec (.ping 3) (session .starting 0 0) = .next t := ⟨⟨_, rfl⟩, ⟨_, rfl⟩⟩

theorem witness_SessionParametersAreFixed :
    (session .starting 0 0).state.isWait = true ∧
      ∃ t, step { session .starting 0 0 with inputs := [.abort] } = .next t :=
  ⟨by decide, ⟨_, rfl⟩⟩

theorem witness_OnlyReleaseLeavesATerminalState :
    (session .succeeded 16 0).state.isTerminal = true ∧
      ((session .succeeded 16 0).dsq ≠ .idle → (session .succeeded 16 0).state = .idle) ∧
      ∃ t, step { session .succeeded 16 0 with inputs := [.release] } = .next t :=
  ⟨by decide, by decide, ⟨_, rfl⟩⟩

theorem witness_FailureIsPrecise :
    (session .starting 0 0).state ≠ .failed ∧
      ∃ t, step { session .starting 0 0 with inputs := [.abort] } = .next t ∧ t.state = .failed :=
  ⟨by decide, ⟨_, rfl, rfl⟩⟩

theorem witness_AtMostOneFrameIsSentInAStep : ∃ t, step (before .scan) = .next t ∧ t.sent = [buildPing 0] :=
  ⟨_, rfl, rfl⟩

/-- The session of P2 with its first chunk on the bus, and a step of it. -/
theorem witness_StepKeepsTheInvariant :
    (session .transferring 0 0xC4F0).Inv ∧
      ∃ t, step { session .transferring 0 0xC4F0 with inputs := [.abort] } = .next t := by
  refine ⟨⟨?_, by decide, by decide, by decide⟩, ⟨_, rfl⟩⟩
  show State.sessionImage _ ∧ _ < _ ∧ _ = _ ∧ _ = _
  exact ⟨⟨by decide, by decide, by decide⟩, by decide, by decide, by decide +kernel⟩

theorem witness_StepKeepsTheResponders :
    (∀ r ∈ (atTargets [responder .receiving 16 8 0]).targets, r.inv) ∧
      ∃ t, step { atTargets [responder .receiving 16 8 0] with
        inputs := [.deliver (buildPing 3)] } = .next t := by
  refine ⟨?_, ⟨_, rfl⟩⟩
  intro r hr
  obtain rfl := List.mem_singleton.1 hr
  show _ = _ ∧ _ = _ ∧ _ < _
  decide

/-- A report of board 3 as a receive outcome. -/
def rep (data : List Byte) : RxOutcome := .frame ⟨0x1B007135#29, data⟩

/-- The outcomes of P2 (two chunks) and of P9 (none). -/
theorem witness_CompliantRepliesGiveSuccess :
    let os := [rep [0, 0, 0, 0, 1, 0, 0, 0], rep [0, 0, 0, 0, 1, 0, 0, 0],
      rep [0, 0, 0, 0, 2, 0, 0, 0], rep [0, 0, 0, 0, 3, 1, 0, 0]]
    let os0 := [rep [0, 0, 0, 0, 1, 0, 0, 0], rep [0, 0, 0, 0, 3, 1, 0, 0]]
    let s := { State.reset with inputs := .load 3 image13 :: (os.map Event.rx ++ []) }
    let s0 := { State.reset with inputs := .load 0 image0 :: (os0.map Event.rx ++ [Event.release]) }
    (s.quiet ∧ Admitted 3 image13 s.params.padPolicy ∧
      paddedLen s.params.padPolicy image13.len = 8 * 2 ∧ Compliant 2 os ∧
      s.inputs = .load 3 image13 :: (os.map Event.rx ++ [])) ∧
    (s0.quiet ∧ Admitted 0 image0 s0.params.padPolicy ∧
      paddedLen s0.params.padPolicy image0.len = 8 * 0 ∧ Compliant 0 os0 ∧
      s0.inputs = .load 0 image0 :: (os0.map Event.rx ++ [Event.release])) := by decide

/-- The same outcomes with the reply to START, to a DATA, or to STOP omitted. -/
theorem witness_OmittedReplyGivesFailure :
    let os := [rep [0, 0, 0, 0, 1, 0, 0, 0], rep [0, 0, 0, 0, 1, 0, 0, 0],
      rep [0, 0, 0, 0, 2, 0, 0, 0], rep [0, 0, 0, 0, 3, 1, 0, 0]]
    let s (j : Nat) := { State.reset with
      inputs := .load 3 image13 :: ((os.take j).map Event.rx ++ Event.rx .none :: []) }
    ∀ j ∈ [0, 1, 2, 3],
      (s j).quiet ∧ Admitted 3 image13 (s j).params.padPolicy ∧
        paddedLen (s j).params.padPolicy image13.len = 8 * 2 ∧ Compliant 2 os ∧ j < 2 + 2 ∧
        (s j).inputs =
          .load 3 image13 :: ((os.take j).map Event.rx ++ Event.rx .none :: []) := by decide

theorem witness_ClosedSystemSucceeds :
    let s := { before (.load 3 image13) with targets := [Responder.fresh 3] }
    s.quiet ∧ Admitted 3 image13 s.params.padPolicy ∧
      paddedLen s.params.padPolicy image13.len = 8 * 2 ∧ 0 < 2 ∧ s.targets = [Responder.fresh 3] ∧
      (Responder.fresh 3).me = BitVec.ofNat 4 3 ∧ (Responder.fresh 3).policy = .crcCheck ∧
      s.toTarget = [] ∧ s.toHost = [] ∧ s.unread = [] ∧ s.inputs = [.load 3 image13] := by decide

end Sys2Proof.Tests
end

section
/-! The proofs of the family 00_scope: which event a step takes, and what a step whose event is the
arrival of a row of the opcode table does. The lemmas say once, per source, what `State.nextEvent`
answers and what a frame's arrival executes. -/

namespace Sys2Proof.Machine

/-! ## Only a CAN frame is a row -/

/-- The payload of a row has at most eight bytes (00_scope R12), by the length its code demands. -/
theorem decodePayload_length {board : Board} {code : Code} {data : List Byte} {i : Instr}
    (h : decodePayload board code data = .instr i) : data.length ≤ 8 := by
  by_cases hdata : data.length = 8
  · exact hdata.le
  unfold decodePayload at h
  split_ifs at h
  all_goals
    split at h
    · simp
    · cases h

theorem wf_of_decode {f : Frame} {i : Instr} (h : decode f = .instr i) : f.wf = true := by
  unfold decode at h
  split at h
  · exact decide_eq_true (decodePayload_length h)
  · cases h

/-! ## What an arriving frame executes -/

theorem fetchFrame_of_decode (p : Port) {f : Frame} {i : Instr} (h : decode f = .instr i)
    (s : State) : fetchFrame p f s = .instr i (s.atPort p) := by
  simp only [fetchFrame, wf_of_decode h, if_true, h]

/-- A step that finds an event acts on it in the state whose trace already shows it. -/
theorem fetch_of_nextEvent {s s' : State} {e : Event} (h : s.nextEvent = some (e, s')) :
    fetch s = act e (s'.log (.event e)) := by
  simp only [fetch, h]

theorem step_of_fetch_instr {s s' : State} {i : Instr} (h : fetch s = .instr i s') :
    step s = exec i s' := by
  simp only [step, h]

theorem step_of_received {s s' : State} {f : Frame} {i : Instr} (hd : decode f = .instr i)
    (hn : s.nextEvent = some (.rx (.frame f), s')) :
    step s = exec i ((s'.log (.event (.rx (.frame f)))).atPort .host) :=
  step_of_fetch_instr ((fetch_of_nextEvent hn).trans (fetchFrame_of_decode .host hd _))

theorem step_of_delivered {s s' : State} {f : Frame} {i : Instr} (hd : decode f = .instr i)
    (hn : s.nextEvent = some (.deliver f, s')) :
    step s = exec i ((s'.log (.event (.deliver f))).atPort .target) :=
  step_of_fetch_instr ((fetch_of_nextEvent hn).trans (fetchFrame_of_decode .target hd _))

/-- Settles O48: a row is a CAN frame, so its arrival is fetched as an instruction. -/
theorem stepExecutesTheArrivingRow : Obligations.StepExecutesTheArrivingRow :=
  fun _ _ _ _ hd => ⟨step_of_received hd, step_of_delivered hd⟩

/-! ## Where the next event comes from -/

theorem State.waiting_iff {s : State} :
    s.waiting = true ↔ s.state.isWait = true ∨ s.dsq ≠ .idle := by
  simp [State.waiting]

theorem State.nextEvent_of_inputs {s : State} {e : Event} {ins : List Event}
    (hi : s.inputs = e :: ins) : s.nextEvent = some (e, { s with inputs := ins }) := by
  simp only [State.nextEvent, hi]

theorem State.nextEvent_of_toTarget {s : State} {f : Frame} {fs : List Frame}
    (hi : s.inputs = []) (ht : s.toTarget = f :: fs) :
    s.nextEvent = some (.deliver f, { s with toTarget := fs }) := by
  simp only [State.nextEvent, hi, ht]

/-- With nothing to come and nothing in flight to the targets, a wait gets what the channel has. -/
theorem State.nextEvent_of_waiting {s : State} (hi : s.inputs = []) (ht : s.toTarget = [])
    (hw : s.waiting = true) :
    s.nextEvent = some (.rx (s.channelOutcome s.unread s.freeCount).1,
      (s.channelOutcome s.unread s.freeCount).2) := by
  simp only [State.nextEvent, hi, ht, hw, if_true]

theorem State.nextEvent_of_not_waiting {s : State} (hi : s.inputs = []) (ht : s.toTarget = [])
    (hw : s.waiting = false) : s.nextEvent = none := by
  simp [State.nextEvent, hi, ht, hw]

theorem step_of_nextEvent_none {s : State} (h : s.nextEvent = none) : step s = .next s := by
  simp only [step, fetch, h]

/-! ## What the channel gives a wait -/

theorem State.channelOutcome_kept {n : Nat} (hk : Config.channelKeeps n = true) (s : State)
    (f : Frame) (fs : List Frame) :
    s.channelOutcome (f :: fs) n = (.frame f, { s with unread := fs, freeCount := n + 1 }) := by
  rw [State.channelOutcome, if_pos hk]

theorem State.channelOutcome_lost {n : Nat} (hk : Config.channelKeeps n = false) (s : State)
    (f : Frame) (fs : List Frame) :
    s.channelOutcome (f :: fs) n = s.channelOutcome fs (n + 1) := by
  rw [State.channelOutcome, if_neg (by simp [hk])]

theorem State.channelOutcome_reply {s : State} {f : Frame} {fs : List Frame}
    (hh : s.toHost = f :: fs) (n : Nat) :
    s.channelOutcome [] n =
      (.frame f, { s with unread := [], toHost := fs, freeCount := n }) := by
  simp only [State.channelOutcome, hh]

theorem State.channelOutcome_timeout {s : State} (hh : s.toHost = []) (n : Nat) :
    s.channelOutcome [] n = (.none, { s with unread := [], freeCount := n }) := by
  simp only [State.channelOutcome, hh]

/-- The channel works on the list and the index it is given and overwrites the state's own, so what
these two registers held before does not matter: a lost frame may be dropped beforehand. -/
theorem State.channelOutcome_congr (s : State) (un : List Frame) (c : Nat) (fs : List Frame)
    (n : Nat) :
    State.channelOutcome { s with unread := un, freeCount := c } fs n = s.channelOutcome fs n := by
  induction fs generalizing n with
  | nil => rfl
  | cons f rest ih =>
    cases hk : Config.channelKeeps n with
    | true => rw [State.channelOutcome_kept hk, State.channelOutcome_kept hk]
    | false => rw [State.channelOutcome_lost hk, State.channelOutcome_lost hk, ih]

/-! ## The outcome of a wait -/

section Wait

variable {s : State} {f : Frame} {fs : List Frame} (hi : s.inputs = []) (ht : s.toTarget = [])
  (hw : s.waiting = true)

include hi ht hw

theorem State.nextEvent_of_kept (hu : s.unread = f :: fs)
    (hk : Config.channelKeeps s.freeCount = true) :
    s.nextEvent =
      some (.rx (.frame f), { s with unread := fs, freeCount := s.freeCount + 1 }) := by
  rw [State.nextEvent_of_waiting hi ht hw, hu, State.channelOutcome_kept hk]

theorem State.nextEvent_of_lost (hu : s.unread = f :: fs)
    (hk : Config.channelKeeps s.freeCount = false) :
    s.nextEvent = State.nextEvent { s with unread := fs, freeCount := s.freeCount + 1 } := by
  have hsame := s.channelOutcome_congr fs (s.freeCount + 1) fs (s.freeCount + 1)
  rw [State.nextEvent_of_waiting hi ht hw, hu, State.channelOutcome_lost hk, ← hsame]
  exact (State.nextEvent_of_waiting (by exact hi) (by exact ht) (by exact hw)).symm

theorem State.nextEvent_of_reply (hu : s.unread = []) (hh : s.toHost = f :: fs) :
    s.nextEvent = some (.rx (.frame f), { s with toHost := fs }) := by
  rw [State.nextEvent_of_waiting hi ht hw, hu, State.channelOutcome_reply hh, ← hu]

theorem State.nextEvent_of_timeout (hu : s.unread = []) (hh : s.toHost = []) :
    s.nextEvent = some (.rx .none, s) := by
  rw [State.nextEvent_of_waiting hi ht hw, hu, State.channelOutcome_timeout hh, ← hu]

end Wait

/-- Settles O49, source by source, for both answers of the transport. -/
theorem nextEventFollowsTheInputsThenTheChannel :
    Obligations.NextEventFollowsTheInputsThenTheChannel := by
  intro s e f ins fs
  refine ⟨State.nextEvent_of_inputs, State.nextEvent_of_toTarget, fun hi ht hwait => ?wait,
    fun hi ht hstate hdsq => ?quiet⟩
  case wait =>
    have hw := State.waiting_iff.2 hwait
    exact ⟨fun hu => ⟨State.nextEvent_of_kept hi ht hw hu, State.nextEvent_of_lost hi ht hw hu⟩,
      State.nextEvent_of_reply hi ht hw, State.nextEvent_of_timeout hi ht hw⟩
  case quiet =>
    have hw : s.waiting = false := by simp [State.waiting, hstate, hdsq]
    exact step_of_nextEvent_none (State.nextEvent_of_not_waiting hi ht hw)

end Sys2Proof.Machine
end

section
/-! The proofs of the family 10_state: reset, the registers that a session fixes, and the machine's
invariant. Each operation is taken through its inversion lemma (`load_next`, `State.advance_next`, …),
and `step_next` puts the operations together. -/

namespace Sys2Proof.Machine

/-! ## The session's parameters (10_state R35, last sentence) -/

/-- What LOAD fixes for the whole session, with the model's parameters. -/
def State.fixedRegs (s : State) : Params × Board × Half × Image := (s.params, s.board, s.len, s.img)

theorem State.fixedRegs_eq_iff {s t : State} :
    t.fixedRegs = s.fixedRegs ↔
      t.params = s.params ∧ t.board = s.board ∧ t.len = s.len ∧ t.img = s.img := by
  simp [State.fixedRegs]

@[simp] theorem State.rejectReport_fixedRegs (v : Verdict) (exp : Byte) (s : State) :
    (s.rejectReport v exp).fixedRegs = s.fixedRegs := by
  cases v <;> rfl

theorem State.advance_fixedRegs {s t : State} (h : s.advance = .next t) :
    t.fixedRegs = s.fixedRegs := by
  obtain ⟨-, rfl⟩ | ⟨-, -, rfl⟩ := State.advance_next h <;> rfl

theorem rxStarting_fixedRegs {o : RxOutcome} {s t : State} (h : rxStarting o s = .next t) :
    t.fixedRegs = s.fixedRegs := by
  obtain ⟨-, hadv⟩ | ⟨-, rfl⟩ := rxStarting_next h
  · exact State.advance_fixedRegs hadv
  · simp

theorem rxTransferring_fixedRegs {o : RxOutcome} {s t : State}
    (h : rxTransferring o s = .next t) : t.fixedRegs = s.fixedRegs := by
  obtain ⟨-, hadv⟩ | ⟨-, rfl⟩ := rxTransferring_next h
  · exact State.advance_fixedRegs (s := { s with offset := s.offset + 8 }) hadv
  · simp

theorem rxFinishing_fixedRegs {o : RxOutcome} {s t : State} (h : rxFinishing o s = .next t) :
    t.fixedRegs = s.fixedRegs := by
  obtain ⟨_, -, ⟨-, rfl⟩ | ⟨-, rfl⟩⟩ | ⟨-, rfl⟩ := rxFinishing_next h
  · rfl
  · rfl
  · simp

/-- Neither sequencer writes BOARD, LEN or IMG on a receive outcome. -/
theorem hostReceive_fixedRegs {o : RxOutcome} {s t : State} (h : hostReceive o s = .next t) :
    t.fixedRegs = s.fixedRegs := by
  obtain ⟨-, hup⟩ | ⟨-, hdsq⟩ := hostReceive_next h
  · obtain ⟨-, hrx⟩ | ⟨-, hrx⟩ | ⟨-, hrx⟩ := uploadReceive_next hup
    · exact rxStarting_fixedRegs hrx
    · exact rxTransferring_fixedRegs hrx
    · exact rxFinishing_fixedRegs hrx
  · obtain ⟨-, ⟨_, rfl⟩ | ⟨_, _, rfl⟩⟩ := discoveryReceive_next hdsq <;> rfl

/-- LOAD, which writes the three registers, runs in Idle only, and RELEASE, which discards them, in no
wait state. -/
theorem ActsTo.fixedRegs_of_wait {s t : State} {e : Event} (h : ActsTo s e t)
    (hw : s.state.isWait = true) : t.fixedRegs = s.fixedRegs := by
  have not_idle : s.state ≠ .idle := by intro hs; simp [hs, SeqState.isWait] at hw
  cases h with
  | load h => exact absurd (load_next h).1 not_idle
  | scan h => exact absurd (scan_next h).2.1 not_idle
  | ping h => exact absurd (pingBoard_next h).2.1 not_idle
  | abort h => obtain ⟨-, rfl⟩ := abort_next h; rfl
  | release h =>
    obtain ⟨hterm, -⟩ | ⟨hs, -⟩ := release_next h
    · cases hs : s.state <;> simp [hs, SeqState.isWait, SeqState.isTerminal] at hw hterm
    · exact absurd hs not_idle
  | openChannel => rfl
  | timeout h => exact hostReceive_fixedRegs h
  | received h => exact hostReceive_fixedRegs (s := s.atPort .host) h
  | ignored => rfl
  | delivered => rfl

theorem ActsTo.params_eq {s t : State} {e : Event} (h : ActsTo s e t) : t.params = s.params := by
  cases h with
  | load h => obtain ⟨-, -, -, ⟨_, -, rfl⟩ | ⟨-, rfl⟩⟩ := load_next h <;> rfl
  | scan h => obtain ⟨-, -, -, rfl⟩ := scan_next h; rfl
  | ping h => obtain ⟨-, -, -, -, rfl⟩ := pingBoard_next h; rfl
  | abort h => obtain ⟨-, rfl⟩ := abort_next h; rfl
  | release h => obtain ⟨-, rfl⟩ | ⟨-, rfl⟩ := release_next h <;> rfl
  | openChannel => rfl
  | timeout h => exact (State.fixedRegs_eq_iff.1 (hostReceive_fixedRegs h)).1
  | received h => exact (State.fixedRegs_eq_iff.1 (hostReceive_fixedRegs h)).1
  | ignored => rfl
  | delivered => rfl

/-- Settles O51: taking the event changes none of the registers, and acting on it keeps them. -/
theorem sessionParametersAreFixed : Obligations.SessionParametersAreFixed := by
  intro s t h
  obtain ⟨-, rfl⟩ | ⟨e, s', hnext, hact⟩ := step_next h
  · exact ⟨rfl, fun _ => ⟨rfl, rfl, rfl, fun _ => rfl⟩⟩
  · obtain ⟨_, _, _, _, _, rfl⟩ := State.nextEvent_some hnext
    refine ⟨hact.params_eq, fun hw => ?_⟩
    obtain ⟨-, hboard, hlen, himg⟩ := State.fixedRegs_eq_iff.1 (hact.fixedRegs_of_wait hw)
    exact ⟨hboard, hlen, himg, fun a => congrArg (·.padded a) himg⟩

/-! ## The invariant, by where STATE stands -/

theorem State.inv_iff_of_idle {s : State} (h : s.state = .idle) :
    s.Inv ↔ s.cause = .none ∧ s.img.wf = true := by
  simp [State.Inv, State.sessionInv, h]

theorem State.inv_iff_of_failed {s : State} (h : s.state = .failed) :
    s.Inv ↔ s.cause ≠ .none ∧ s.dsq = .idle ∧ s.img.wf = true := by
  simp [State.Inv, State.sessionInv, h]

/-- In the wait states and in Succeeded no cause is recorded and no discovery operation runs. -/
theorem State.inv_iff_of_session {s : State} (hi : s.state ≠ .idle) (hf : s.state ≠ .failed) :
    s.Inv ↔ s.sessionInv ∧ s.cause = .none ∧ s.dsq = .idle ∧ s.img.wf = true := by
  simp [State.Inv, hi, hf]

/-- Settles O19: at reset STATE is Idle, where the invariant asks only for CAUSE NONE and a canonical
image. -/
theorem resetIsIdleAndMeetsTheInvariant : Obligations.ResetIsIdleAndMeetsTheInvariant :=
  ⟨rfl, rfl, (State.inv_iff_of_idle rfl).2 ⟨rfl, reset_img_wf⟩⟩

/-- In Idle the discovery position is free: what keeps STATE, CAUSE and IMG keeps the invariant. -/
theorem State.Inv.of_idle {s t : State} (hs : s.Inv) (hidle : s.state = .idle)
    (hstate : t.state = s.state) (hcause : t.cause = s.cause) (himg : t.img = s.img) : t.Inv := by
  obtain ⟨hnone, hwf⟩ := (State.inv_iff_of_idle hidle).1 hs
  exact (State.inv_iff_of_idle (hstate.trans hidle)).2 ⟨hcause.trans hnone, himg ▸ hwf⟩

/-- A failure from a wait state, or from an Idle in which no discovery runs, keeps the invariant. -/
theorem State.Inv.of_failure {s t : State} (hs : s.Inv) (hdsq : s.dsq = .idle)
    (hstate : t.state = .failed) (hcause : t.cause ≠ .none) (hd : t.dsq = s.dsq)
    (himg : t.img = s.img) : t.Inv := by
  obtain ⟨-, -, -, hwf⟩ := hs
  exact (State.inv_iff_of_failed hstate).2 ⟨hcause, hd.trans hdsq, himg ▸ hwf⟩

theorem State.Inv.rejectReport {s : State} (hs : s.Inv) (hdsq : s.dsq = .idle) {v : Verdict}
    (hv : v.isFailure = true) (exp : Byte) : (s.rejectReport v exp).Inv := by
  obtain ⟨c, _, _, _, hc, heq⟩ := State.rejectReport_failed hv exp s
  rw [heq]
  exact hs.of_failure hdsq rfl hc rfl rfl

/-! ## ADVANCE folds the image into CRC chunk by chunk -/

theorem paddedLen_mod_eight (policy : PadPolicy) (l : Nat) : paddedLen policy l % 8 = 0 := by
  cases policy <;> simp only [paddedLen, padLen] <;> omega

theorem State.sessionImage.len_mod_eight {s : State} (h : s.sessionImage) :
    s.len.toNat % 8 = 0 := by
  obtain ⟨-, -, hlen⟩ := h
  rw [hlen, paddedLen_mod_eight]

theorem crcOver_append (xs ys : List Byte) (c : Half) :
    crcOver (xs ++ ys) c = crcOver ys (crcOver xs c) := List.foldl_append

/-- Where ADVANCE begins, CRC is the fold of the padded image up to OFFSET: the chunk at OFFSET is not
yet in it. -/
def State.foldedToOffset (s : State) : Prop :=
  s.sessionImage ∧ s.offset.toNat % 8 = 0 ∧ s.crc = crcOver (s.img.paddedBytes 0 s.offset.toNat) 0

/-- Before the first chunk nothing is folded. -/
theorem State.foldedToOffset_of_starting {s : State} (hst : s.state = .starting)
    (h : s.sessionInv) : s.foldedToOffset := by
  simp only [State.sessionInv, hst] at h
  obtain ⟨himg, hcrc, hoff⟩ := h
  simp [State.foldedToOffset, himg, hcrc, hoff, Image.paddedBytes, crcOver]

/-- The chunk last sent is folded already, and moving OFFSET past it does not wrap: LEN is a multiple
of 8 that fits 16 bits. -/
theorem State.foldedToOffset_of_transferring {s : State} (hst : s.state = .transferring)
    (h : s.sessionInv) : State.foldedToOffset { s with offset := s.offset + 8 } := by
  simp only [State.sessionInv, hst] at h
  obtain ⟨himg, hlt, hmod, hcrc⟩ := h
  have hlen := himg.len_mod_eight
  have hnext : (s.offset + 8).toNat = s.offset.toNat + 8 := by bv_omega
  refine ⟨himg, ?_, ?_⟩
  · show (s.offset + 8).toNat % 8 = 0
    omega
  · show s.crc = crcOver (s.img.paddedBytes 0 (s.offset + 8).toNat) 0
    rw [hnext, hcrc]

/-- ADVANCE keeps the fold: STOP goes out with the whole image in CRC, and a chunk is folded before it
is sent. -/
theorem State.advance_inv {s t : State} (hfold : s.foldedToOffset) (hcause : s.cause = .none)
    (hdsq : s.dsq = .idle) (hwf : s.img.wf = true) (h : s.advance = .next t) : t.Inv := by
  obtain ⟨himg, hmod, hcrc⟩ := hfold
  obtain ⟨hend, rfl⟩ | ⟨-, hle, rfl⟩ := State.advance_next h
  · refine (State.inv_iff_of_session (by simp) (by simp)).2 ⟨?_, hcause, hdsq, hwf⟩
    exact ⟨himg, hend, hend ▸ hcrc⟩
  · refine (State.inv_iff_of_session (by simp) (by simp)).2 ⟨?_, hcause, hdsq, hwf⟩
    have hchunk : crcOver (s.img.paddedBytes s.offset.toNat 8) s.crc =
        crcOver (s.img.paddedBytes 0 (s.offset.toNat + 8)) 0 := by
      rw [hcrc, Image.paddedBytes_append, crcOver_append, Nat.zero_add]
    have hlt : s.offset.toNat < s.len.toNat := by omega
    exact ⟨himg, hlt, hmod, hchunk⟩

/-! ## Every operation keeps the invariant -/

theorem rxStarting_inv {o : RxOutcome} {s t : State} (hst : s.state = .starting) (hs : s.Inv)
    (h : rxStarting o s = .next t) : t.Inv := by
  obtain ⟨hsess, hcause, hdsq, hwf⟩ :=
    (State.inv_iff_of_session (by simp [hst]) (by simp [hst])).1 hs
  obtain ⟨-, hadv⟩ | ⟨hv, rfl⟩ := rxStarting_next h
  · exact State.advance_inv (State.foldedToOffset_of_starting hst hsess) hcause hdsq hwf hadv
  · exact hs.rejectReport hdsq hv _

theorem rxTransferring_inv {o : RxOutcome} {s t : State} (hst : s.state = .transferring)
    (hs : s.Inv) (h : rxTransferring o s = .next t) : t.Inv := by
  obtain ⟨hsess, hcause, hdsq, hwf⟩ :=
    (State.inv_iff_of_session (by simp [hst]) (by simp [hst])).1 hs
  obtain ⟨-, hadv⟩ | ⟨hv, rfl⟩ := rxTransferring_next h
  · exact State.advance_inv (State.foldedToOffset_of_transferring hst hsess) hcause hdsq hwf hadv
  · exact hs.rejectReport hdsq hv _

theorem rxFinishing_inv {o : RxOutcome} {s t : State} (hst : s.state = .finishing) (hs : s.Inv)
    (h : rxFinishing o s = .next t) : t.Inv := by
  obtain ⟨hsess, hcause, hdsq, hwf⟩ :=
    (State.inv_iff_of_session (by simp [hst]) (by simp [hst])).1 hs
  obtain ⟨_, -, ⟨hone, rfl⟩ | ⟨-, rfl⟩⟩ | ⟨hv, rfl⟩ := rxFinishing_next h
  · simp only [State.sessionInv, hst] at hsess
    obtain ⟨himg, hoff, hcrc⟩ := hsess
    refine (State.inv_iff_of_session (by simp) (by simp)).2 ⟨?_, hcause, hdsq, hwf⟩
    exact ⟨himg, hoff, hcrc, hone⟩
  · exact hs.of_failure hdsq rfl (by simp) rfl rfl
  · exact hs.rejectReport hdsq hv _

/-- Discovery runs in Idle, where it moves only its own position. -/
theorem discoveryReceive_inv {o : RxOutcome} {s t : State} (hs : s.Inv)
    (h : discoveryReceive o s = .next t) : t.Inv := by
  obtain ⟨hrun, hnext⟩ := discoveryReceive_next h
  have hidle : s.state = .idle := by
    obtain ⟨-, -, hquiet, -⟩ := hs
    exact hquiet hrun
  obtain ⟨_, rfl⟩ | ⟨_, _, rfl⟩ := hnext <;> exact hs.of_idle hidle rfl rfl rfl

theorem hostReceive_inv {o : RxOutcome} {s t : State} (hs : s.Inv)
    (h : hostReceive o s = .next t) : t.Inv := by
  obtain ⟨-, hup⟩ | ⟨-, hdsq⟩ := hostReceive_next h
  · obtain ⟨hst, hrx⟩ | ⟨hst, hrx⟩ | ⟨hst, hrx⟩ := uploadReceive_next hup
    · exact rxStarting_inv hst hs hrx
    · exact rxTransferring_inv hst hs hrx
    · exact rxFinishing_inv hst hs hrx
  · exact discoveryReceive_inv hs hdsq

/-- LOAD establishes the registers of Starting; its precondition failures leave the image alone. -/
theorem load_inv {board : Nat} {image : Image} {s t : State} (hs : s.Inv)
    (h : load board image s = .next t) : t.Inv := by
  obtain ⟨-, hdsq, -, ⟨_, -, rfl⟩ | ⟨⟨-, hseg, hbase, hfits, hwf⟩, rfl⟩⟩ := load_next h
  · exact hs.of_failure hdsq rfl (by simp) rfl rfl
  · refine (State.inv_iff_of_session (by simp) (by simp)).2 ⟨?_, rfl, hdsq, hwf⟩
    have hlen : (BitVec.ofNat 16 (paddedLen s.params.padPolicy image.len)).toNat =
        paddedLen s.params.padPolicy image.len := by
      rw [BitVec.toNat_ofNat]
      exact Nat.mod_eq_of_lt (by omega)
    exact ⟨⟨hseg, hbase, hlen⟩, rfl, rfl⟩

/-- A session under way is not Idle, so no discovery operation runs. -/
theorem State.Inv.dsq_idle_of_wait {s : State} (hs : s.Inv) (hw : s.state.isWait = true) :
    s.dsq = .idle := by
  obtain ⟨-, -, hquiet, -⟩ := hs
  by_contra hrun
  simp [hquiet hrun, SeqState.isWait] at hw

theorem abort_inv {s t : State} (hs : s.Inv) (h : abort s = .next t) : t.Inv := by
  obtain ⟨hw, rfl⟩ := abort_next h
  exact hs.of_failure (hs.dsq_idle_of_wait hw) rfl (by simp) rfl rfl

/-- RELEASE goes to Idle with CAUSE NONE, and the image it leaves is canonical. -/
theorem release_inv {s t : State} (hs : s.Inv) (h : release s = .next t) : t.Inv := by
  obtain ⟨-, rfl⟩ | ⟨-, rfl⟩ := release_next h
  · exact (State.inv_iff_of_idle rfl).2 ⟨rfl, freeImage_wf _⟩
  · exact hs

/-- What the channel, the targets and the trace hold is no part of the invariant, so the events that
touch nothing else keep it as it stands. -/
theorem ActsTo.inv {s t : State} {e : Event} (h : ActsTo s e t) (hs : s.Inv) : t.Inv := by
  cases h with
  | load h => exact load_inv hs h
  | scan h => obtain ⟨-, hidle, -, rfl⟩ := scan_next h; exact hs.of_idle hidle rfl rfl rfl
  | ping h => obtain ⟨-, hidle, -, -, rfl⟩ := pingBoard_next h; exact hs.of_idle hidle rfl rfl rfl
  | abort h => exact abort_inv hs h
  | release h => exact release_inv hs h
  | openChannel => exact hs
  | timeout h => exact hostReceive_inv hs h
  | received h => exact hostReceive_inv (s := s.atPort .host) hs h
  | ignored => exact hs
  | delivered => exact hs

/-- Settles O55: taking an event leaves the registers as they are, and every event keeps the
invariant. -/
theorem stepKeepsTheInvariant : Obligations.StepKeepsTheInvariant := by
  intro s t hs h
  obtain ⟨-, rfl⟩ | ⟨e, s', hnext, hact⟩ := step_next h
  · exact hs
  · obtain ⟨_, _, _, _, _, rfl⟩ := State.nextEvent_some hnext
    exact hact.inv hs

end Sys2Proof.Machine
end

section
/-! The proofs of the family 20_memory: what the padded image reads as, that its form is canonical, and
what a receive outcome and a step leave as they were. A receive outcome is split once into the registers
that RX writes and the one thing CBU makes visible with it (`hostReceive_emits`); the frame of an
instruction and the growth of the trace are both read off that. -/

namespace Sys2Proof.Machine

/-! ## Reading a canonical memory (log entry 15) -/

theorem Memory.wfFrom_cons {lo a : Nat} {b : Byte} {rest : Memory} :
    Memory.wfFrom lo ((a, b) :: rest) = true ↔
      lo ≤ a ∧ b ≠ Memory.unlisted ∧ Memory.wfFrom (a + 1) rest = true := by
  simp [Memory.wfFrom, and_assoc]

@[simp] theorem Memory.read_cons_self (a : Nat) (b : Byte) (rest : Memory) :
    Memory.read ((a, b) :: rest) a = b := if_pos rfl

theorem Memory.read_cons_of_ne {a c : Nat} (h : a ≠ c) (b : Byte) (rest : Memory) :
    Memory.read ((a, b) :: rest) c = Memory.read rest c := if_neg h

theorem Memory.read_of_not_listed {m : Memory} {a : Nat} (h : ∀ c ∈ m, c.1 ≠ a) :
    m.read a = Memory.unlisted := by
  induction m with
  | nil => rfl
  | cons c rest ih =>
    obtain ⟨hc, hrest⟩ := List.forall_mem_cons.1 h
    exact (Memory.read_cons_of_ne hc _ _).trans (ih hrest)

theorem Memory.le_of_wfFrom {m : Memory} {lo : Nat} (h : Memory.wfFrom lo m = true) :
    ∀ c ∈ m, lo ≤ c.1 := by
  induction m generalizing lo with
  | nil => simp
  | cons c rest ih =>
    obtain ⟨hlo, -, hrest⟩ := Memory.wfFrom_cons.1 h
    refine List.forall_mem_cons.2 ⟨hlo, fun d hd => ?_⟩
    have := ih hrest d hd
    omega

theorem Memory.read_of_lt {m : Memory} {lo a : Nat} (h : Memory.wfFrom lo m = true) (ha : a < lo) :
    m.read a = Memory.unlisted :=
  Memory.read_of_not_listed fun c hc => by
    have := Memory.le_of_wfFrom h c hc
    omega

theorem Image.wf_iff {i : Image} :
    i.wf = true ↔ Memory.wfFrom 0 i.mem = true ∧ ∀ c ∈ i.mem, c.1 < i.len := by
  simp [Image.wf, Memory.wf]

/-- The cells of a canonical image stop at its length, so cutting the memory there loses nothing. -/
theorem Image.padded_eq_read {i : Image} (h : i.wf = true) (a : Nat) :
    i.padded a = i.mem.read a := by
  obtain ⟨-, hbound⟩ := Image.wf_iff.1 h
  unfold Image.padded
  split
  · rfl
  · refine (Memory.read_of_not_listed fun c hc => ?_).symm
    have := hbound c hc
    omega

theorem Memory.read_ofBytesFrom_head (lo : Nat) (b : Byte) (rest : List Byte) :
    (Memory.ofBytesFrom lo (b :: rest)).read lo = b := by
  rw [Memory.ofBytesFrom]
  split <;> rename_i hb
  · have hrest := Memory.ofBytesFrom_wfFrom (lo + 1) rest
    exact (Memory.read_of_lt hrest lo.lt_succ_self).trans hb.symm
  · exact Memory.read_cons_self lo b _

theorem Memory.read_ofBytesFrom_tail {lo a : Nat} (h : lo ≠ a) (b : Byte) (rest : List Byte) :
    (Memory.ofBytesFrom lo (b :: rest)).read a = (Memory.ofBytesFrom (lo + 1) rest).read a := by
  rw [Memory.ofBytesFrom]
  split
  · rfl
  · exact Memory.read_cons_of_ne h b _

/-- A buffer's memory gives back the buffer, its zeros among it, which are not listed. -/
theorem Memory.read_ofBytesFrom (lo k : Nat) (bytes : List Byte) :
    (Memory.ofBytesFrom lo bytes).read (lo + k) = bytes.getD k Memory.unlisted := by
  induction bytes generalizing lo k with
  | nil => rfl
  | cons b rest ih =>
    cases k with
    | zero => exact Memory.read_ofBytesFrom_head lo b rest
    | succ k =>
      rw [Memory.read_ofBytesFrom_tail (by omega), ← Nat.succ_add_eq_add_succ lo k]
      exact ih (lo + 1) k

/-- Settles O17: the image of a buffer is canonical, so it reads as its memory does. -/
theorem paddedImageReadsTheBufferThenZeros : Obligations.PaddedImageReadsTheBufferThenZeros := by
  intro nseg base a bytes
  have hread := Memory.read_ofBytesFrom 0 a bytes
  rw [Nat.zero_add] at hread
  exact (Image.padded_eq_read (Image.ofBytes_wf nseg base bytes) a).trans hread

/-! ## The form is canonical -/

/-- A canonical memory lists nothing below its first cell. -/
theorem Memory.first_le {lo a c : Nat} {b : Byte} {rest : Memory}
    (h : Memory.wfFrom lo ((a, b) :: rest) = true)
    (hread : Memory.read ((a, b) :: rest) c ≠ Memory.unlisted) : a ≤ c := by
  obtain ⟨-, hb, hrest⟩ := Memory.wfFrom_cons.1 h
  by_contra hlt
  exact hread (Memory.read_of_lt (Memory.wfFrom_cons.2 ⟨le_rfl, hb, hrest⟩) (by omega))

/-- Memories that read alike begin with the same cell, since each first address is listed in the
other, and read alike above it. -/
theorem Memory.eq_of_read_eq {m m' : Memory} {lo : Nat} (h : Memory.wfFrom lo m = true)
    (h' : Memory.wfFrom lo m' = true) (hread : ∀ a, m.read a = m'.read a) : m = m' := by
  induction m generalizing m' lo with
  | nil =>
    cases m' with
    | nil => rfl
    | cons c' rest' =>
      obtain ⟨-, hb', -⟩ := Memory.wfFrom_cons.1 h'
      exact absurd ((hread c'.1).trans (Memory.read_cons_self _ _ _)).symm hb'
  | cons c rest ih =>
    obtain ⟨a, b⟩ := c
    obtain ⟨-, hb, hrest⟩ := Memory.wfFrom_cons.1 h
    have hfirst := (hread a).symm.trans (Memory.read_cons_self a b rest)
    cases m' with
    | nil => exact absurd hfirst.symm hb
    | cons c' rest' =>
      obtain ⟨a', b'⟩ := c'
      obtain ⟨-, hb', hrest'⟩ := Memory.wfFrom_cons.1 h'
      have hfirst' := (hread a').trans (Memory.read_cons_self a' b' rest')
      obtain rfl : a = a' :=
        le_antisymm (Memory.first_le h (hfirst' ▸ hb')) (Memory.first_le h' (hfirst ▸ hb))
      obtain rfl : b' = b := (Memory.read_cons_self a b' rest').symm.trans hfirst
      have htail (d : Nat) : Memory.read rest d = Memory.read rest' d := by
        by_cases hd : d < a + 1
        · rw [Memory.read_of_lt hrest hd, Memory.read_of_lt hrest' hd]
        · have hne : a ≠ d := by omega
          simpa only [Memory.read_cons_of_ne hne] using hread d
      rw [ih hrest hrest' htail]

/-- Settles O18: the padded image reads as the memory does, and the memory is determined by that. -/
theorem canonicalImagesReadAlikeAreEqual : Obligations.CanonicalImagesReadAlikeAreEqual := by
  intro i j hi hj hnseg hbase hlen hread
  have hmem : i.mem = j.mem :=
    Memory.eq_of_read_eq (Image.wf_iff.1 hi).1 (Image.wf_iff.1 hj).1 fun a => by
      rw [← Image.padded_eq_read hi, ← Image.padded_eq_read hj, hread a]
  cases i
  cases j
  exact (Image.mk.injEq ..).mpr ⟨hnseg, hbase, hlen, hmem⟩

/-! ## What a receive outcome writes and what it makes visible -/

/-- What CBU makes visible by one event: nothing, a frame on the bus, or a discovery result
(20_memory R65, 10_state R38). -/
inductive Emission where
  | nothing
  | frame (f : Frame)
  | result (r : DsqResult)

/-- The trace lines of an emission. -/
def Emission.lines : Emission → List TraceItem
  | .nothing => []
  | .frame f => [.sent f]
  | .result r => [.result r]

/-- The state with the emission made and no register written. -/
def State.emit : Emission → State → State
  | .nothing, s => s
  | .frame f, s => s.send f
  | .result r, s => s.log (.result r)

/-- The state with every register cleared that RX of either sequencer writes: equal erased states
differ in no other field. -/
def State.eraseRx (s : State) : State :=
  { s with
    state := .idle, crc := 0, offset := 0, cause := .none, expected := 0, actual := 0
    status := 0, nrkind := 0, fstate := .idle, dsq := .idle }

@[simp] theorem State.emit_trace (e : Emission) (s : State) :
    (s.emit e).trace = s.trace ++ e.lines := by
  cases e with
  | nothing => exact (List.append_nil _).symm
  | frame f => rfl
  | result r => rfl

@[simp] theorem State.rejectReport_eraseRx (v : Verdict) (exp : Byte) (s : State) :
    (s.rejectReport v exp).eraseRx = s.eraseRx := by
  cases v <;> rfl

theorem State.advance_sends {s t : State} (h : s.advance = .next t) :
    ∃ f, t.eraseRx = (s.send f).eraseRx := by
  obtain ⟨-, rfl⟩ | ⟨-, -, rfl⟩ := State.advance_next h <;> exact ⟨_, rfl⟩

theorem uploadReceive_emits {o : RxOutcome} {s t : State} (h : uploadReceive o s = .next t) :
    ∃ e, t.eraseRx = (s.emit e).eraseRx := by
  obtain ⟨-, hrx⟩ | ⟨-, hrx⟩ | ⟨-, hrx⟩ := uploadReceive_next h
  · obtain ⟨-, hadv⟩ | ⟨-, rfl⟩ := rxStarting_next hrx
    · obtain ⟨f, hf⟩ := State.advance_sends hadv
      exact ⟨.frame f, hf⟩
    · exact ⟨.nothing, by simp [State.emit]⟩
  · obtain ⟨-, hadv⟩ | ⟨-, rfl⟩ := rxTransferring_next hrx
    · obtain ⟨f, hf⟩ := State.advance_sends hadv
      exact ⟨.frame f, hf⟩
    · exact ⟨.nothing, by simp [State.emit]⟩
  · obtain ⟨_, -, ⟨-, rfl⟩ | ⟨-, rfl⟩⟩ | ⟨-, rfl⟩ := rxFinishing_next hrx
    · exact ⟨.nothing, rfl⟩
    · exact ⟨.nothing, rfl⟩
    · exact ⟨.nothing, by simp [State.emit]⟩

theorem discoveryReceive_emits {o : RxOutcome} {s t : State}
    (h : discoveryReceive o s = .next t) : ∃ e, t.eraseRx = (s.emit e).eraseRx := by
  obtain ⟨-, ⟨r, rfl⟩ | ⟨board, _, rfl⟩⟩ := discoveryReceive_next h
  · exact ⟨.result r, rfl⟩
  · exact ⟨.frame (buildPing board), rfl⟩

/-- Whichever sequencer waits, a receive outcome writes its registers and emits at most one thing. -/
theorem hostReceive_emits {o : RxOutcome} {s t : State} (h : hostReceive o s = .next t) :
    ∃ e, t.eraseRx = (s.emit e).eraseRx := by
  obtain ⟨-, hup⟩ | ⟨-, hdsq⟩ := hostReceive_next h
  · exact uploadReceive_emits hup
  · exact discoveryReceive_emits hdsq

theorem hostReceive_trace {o : RxOutcome} {s t : State} (h : hostReceive o s = .next t) :
    ∃ e : Emission, t.trace = s.trace ++ e.lines := by
  obtain ⟨e, he⟩ := hostReceive_emits h
  exact ⟨e, (congrArg State.trace he).trans (s.emit_trace e)⟩

/-- What neither RX's registers nor an emission touch, a receive outcome keeps. -/
theorem hostReceive_keeps {α : Type} (view : State → α) (hrx : ∀ u, view u.eraseRx = view u)
    (hemit : ∀ u e, view (State.emit e u) = view u) {o : RxOutcome} {s t : State}
    (h : hostReceive o s = .next t) : view t = view s := by
  obtain ⟨e, he⟩ := hostReceive_emits h
  calc view t = view t.eraseRx := (hrx t).symm
    _ = view (s.emit e).eraseRx := congrArg view he
    _ = view (s.emit e) := hrx _
    _ = view s := hemit s e

/-! ## The frame of an instruction -/

/-- What no instruction writes at either node: beside the session's fixed registers, PRESUB, the
channel, the events to come and the model's own counters. -/
def State.instrFixed (s : State) :
    (Params × Board × Half × Image) × BitVec 1 × Option Nat × List Event × Port × Nat :=
  (s.fixedRegs, s.presub, s.channel, s.inputs, s.port, s.freeCount)

theorem State.instrFixed_eq_iff {s t : State} :
    t.instrFixed = s.instrFixed ↔
      (t.params = s.params ∧ t.board = s.board ∧ t.len = s.len ∧ t.img = s.img) ∧
        t.presub = s.presub ∧ t.channel = s.channel ∧ t.inputs = s.inputs ∧ t.port = s.port ∧
          t.freeCount = s.freeCount := by
  simp [State.instrFixed, State.fixedRegs_eq_iff]

/-- The frames that reached CBU and were not read, whether in this wait or before it. -/
def State.arrived (s : State) : List Frame := s.unread ++ s.toHost

/-- A send only moves the replies of the wait it ends to the unread frames. -/
@[simp] theorem State.emit_arrived (s : State) (e : Emission) : (s.emit e).arrived = s.arrived := by
  cases e with
  | nothing => rfl
  | frame f => exact List.append_nil _
  | result r => rfl

theorem hostReceive_instrFixed {o : RxOutcome} {s t : State} (h : hostReceive o s = .next t) :
    t.instrFixed = s.instrFixed :=
  hostReceive_keeps State.instrFixed (fun _ => rfl) (fun _ e => by cases e <;> rfl) h

theorem hostReceive_targets {o : RxOutcome} {s t : State} (h : hostReceive o s = .next t) :
    t.targets = s.targets :=
  hostReceive_keeps State.targets (fun _ => rfl) (fun _ e => by cases e <;> rfl) h

theorem hostReceive_arrived {o : RxOutcome} {s t : State} (h : hostReceive o s = .next t) :
    t.arrived = s.arrived :=
  hostReceive_keeps State.arrived (fun _ => rfl) State.emit_arrived h

/-- At the targets a row reaches only the responders and the replies. -/
theorem exec_target_frame (i : Instr) {s t : State} (hp : s.port = .target)
    (h : exec i s = .next t) : t = { s with targets := t.targets, toHost := t.toHost } := by
  obtain rfl | ⟨_, _, -, rfl⟩ := exec_target i hp h <;> rfl

theorem exec_instrFixed {i : Instr} {s t : State} (h : exec i s = .next t) :
    t.instrFixed = s.instrFixed := by
  cases hp : s.port with
  | host => exact hostReceive_instrFixed (exec_host i hp ▸ h)
  | target =>
    rw [exec_target_frame i hp h]
    rfl

/-- Settles O50: what is fixed at both nodes, then each node's own frame. -/
theorem instructionFrame : Obligations.InstructionFrame := by
  intro i s t h
  obtain ⟨⟨hparams, hboard, hlen, himg⟩, hpresub, hchannel, hinputs, hport, hfree⟩ :=
    State.instrFixed_eq_iff.1 (exec_instrFixed h)
  refine ⟨fun a => congrArg (·.padded a) himg, himg, hboard, hlen, hparams, hpresub, hchannel,
    hinputs, hport, hfree, fun hp => exec_target_frame i hp h, fun hp => ?_⟩
  have hrx := exec_host i hp ▸ h
  exact ⟨hostReceive_targets hrx, hostReceive_arrived hrx⟩

/-! ## The trace (20_memory R65) -/

theorem load_trace {board : Nat} {image : Image} {s t : State} (h : load board image s = .next t) :
    ∃ e : Emission, t.trace = s.trace ++ e.lines := by
  obtain ⟨-, -, -, ⟨_, -, rfl⟩ | ⟨-, rfl⟩⟩ := load_next h
  · exact ⟨.nothing, (List.append_nil _).symm⟩
  · exact ⟨.frame _, rfl⟩

/-- Every event adds the lines of one emission to the trace. -/
theorem ActsTo.trace_eq {s t : State} {e : Event} (h : ActsTo s e t) :
    ∃ x : Emission, t.trace = s.trace ++ x.lines := by
  have silent : s.trace = s.trace ++ Emission.nothing.lines := (List.append_nil _).symm
  cases h with
  | load h => exact load_trace h
  | scan h => obtain ⟨-, -, -, rfl⟩ := scan_next h; exact ⟨.frame _, rfl⟩
  | ping h => obtain ⟨-, -, -, -, rfl⟩ := pingBoard_next h; exact ⟨.frame _, rfl⟩
  | abort h => obtain ⟨-, rfl⟩ := abort_next h; exact ⟨.nothing, silent⟩
  | release h => obtain ⟨-, rfl⟩ | ⟨-, rfl⟩ := release_next h <;> exact ⟨.nothing, silent⟩
  | openChannel => exact ⟨.nothing, silent⟩
  | timeout h => exact hostReceive_trace h
  | received h => exact hostReceive_trace (s := s.atPort .host) h
  | ignored => exact ⟨.nothing, silent⟩
  | delivered => exact ⟨.nothing, silent⟩

/-- A step that takes an event enters it in the trace and adds the lines of one emission. -/
theorem step_trace {s t : State} (h : step s = .next t) :
    t = s ∨ ∃ (e : Event) (x : Emission), t.trace = s.trace ++ .event e :: x.lines := by
  obtain ⟨-, rfl⟩ | ⟨e, s', hnext, hact⟩ := step_next h
  · exact .inl rfl
  · obtain ⟨_, _, _, _, _, rfl⟩ := State.nextEvent_some hnext
    obtain ⟨x, hx⟩ := hact.trace_eq
    exact .inr ⟨e, x, by simpa using hx⟩

/-- Settles O54: the event's own line is no frame, and an emission has at most one. -/
theorem atMostOneFrameIsSentInAStep : Obligations.AtMostOneFrameIsSentInAStep := by
  intro s t h
  obtain rfl | ⟨e, x, htrace⟩ := step_trace h
  · exact ⟨List.prefix_rfl, .inl rfl⟩
  · have hsent : t.sent = s.sent ++ x.lines.filterMap TraceItem.sentFrame := by
      rw [State.sent, htrace, List.filterMap_append]
      rfl
    refine ⟨⟨_, htrace.symm⟩, ?_⟩
    cases x with
    | nothing => exact .inl (hsent.trans (List.append_nil _))
    | frame f => exact .inr ⟨f, hsent⟩
    | result r => exact .inl (hsent.trans (List.append_nil _))

end Sys2Proof.Machine
end

section
/-! The proofs of the family 30_encoding: the decoder and the encoder are inverse. An identifier under
BASE is a board and a code and nothing else, a 16-bit field is its two bytes, and the decoder's answer on
a payload names one row; the rest is put together from these. -/

namespace Sys2Proof

open Laws.FrameFits (baseOk_encodeId)

/-! ## The identifier is its BASE, its board and its code (R80, R84) -/

/-- The three fields do not overlap, so the sum carries nowhere. -/
theorem encodeId_toNat (b : Board) (c : Code) :
    (encodeId b c).toNat = 0x1B007100 + 16 * b.toNat + c.toNat := by
  simp only [encodeId, Config.idBase, BitVec.toNat_add, BitVec.toNat_shiftLeft, BitVec.toNat_ofNat,
    BitVec.truncate_eq_setWidth, BitVec.toNat_setWidth, Nat.shiftLeft_eq]
  omega

theorem decodeBoard_toNat (id : CanId) : (decodeBoard id).toNat = id.toNat / 16 % 16 := by
  simp [decodeBoard, BitVec.extractLsb'_toNat, Nat.shiftRight_eq_div_pow]

theorem decodeCode_toNat (id : CanId) : (decodeCode id).toNat = id.toNat % 16 := by
  simp [decodeCode, BitVec.extractLsb'_toNat]

theorem baseOk_iff {id : CanId} : baseOk id = true ↔ id.toNat / 256 = 0x1B0071 := by
  simp only [baseOk, Config.baseField, decide_eq_true_eq, ← BitVec.toNat_inj,
    BitVec.extractLsb'_toNat, BitVec.toNat_ofNat, Nat.shiftRight_eq_div_pow]
  omega

@[simp] theorem decodeBoard_encodeId (b : Board) (c : Code) : decodeBoard (encodeId b c) = b := by
  apply BitVec.eq_of_toNat_eq
  rw [decodeBoard_toNat, encodeId_toNat]
  omega

@[simp] theorem decodeCode_encodeId (b : Board) (c : Code) : decodeCode (encodeId b c) = c := by
  apply BitVec.eq_of_toNat_eq
  rw [decodeCode_toNat, encodeId_toNat]
  omega

/-- Under the protocol's BASE the decoded board and code hold every bit of the identifier. -/
theorem encodeId_decode {id : CanId} (h : baseOk id = true) :
    encodeId (decodeBoard id) (decodeCode id) = id := by
  rw [baseOk_iff] at h
  apply BitVec.eq_of_toNat_eq
  rw [encodeId_toNat, decodeBoard_toNat, decodeCode_toNat]
  omega

/-! ## A 16-bit field is its two bytes, low byte first (R85) -/

@[simp] theorem lo8_toNat (v : Half) : (lo8 v).toNat = v.toNat % 256 := by
  simp [lo8, BitVec.extractLsb'_toNat]

@[simp] theorem hi8_toNat (v : Half) : (hi8 v).toNat = v.toNat / 256 := by
  simp only [hi8, BitVec.extractLsb'_toNat, Nat.shiftRight_eq_div_pow]
  omega

@[simp] theorem join16_toNat (lo hi : Byte) : (join16 lo hi).toNat = lo.toNat + 256 * hi.toNat := by
  simp only [join16, BitVec.toNat_ofNat]
  omega

@[simp] theorem join16_lo8_hi8 (v : Half) : join16 (lo8 v) (hi8 v) = v := by
  apply BitVec.eq_of_toNat_eq
  rw [join16_toNat, lo8_toNat, hi8_toNat]
  omega

@[simp] theorem lo8_join16 (lo hi : Byte) : lo8 (join16 lo hi) = lo := by
  apply BitVec.eq_of_toNat_eq
  rw [lo8_toNat, join16_toNat]
  omega

@[simp] theorem hi8_join16 (lo hi : Byte) : hi8 (join16 lo hi) = hi := by
  apply BitVec.eq_of_toNat_eq
  rw [hi8_toNat, join16_toNat]
  omega

/-- Settles O7: the value is its remainder and its quotient by 256. -/
theorem littleEndianFieldRoundTrip : Obligations.LittleEndianFieldRoundTrip := by
  intro v
  refine ⟨join16_lo8_hi8 v, ?_⟩
  rw [lo8_toNat, hi8_toNat]
  omega

/-! ## Decoding what a builder built (45_frames R250 to R253, R260) -/

theorem decode_encodeId (b : Board) (c : Code) (data : List Byte) :
    decode ⟨encodeId b c, data⟩ = decodePayload b c data := by
  simp only [decode, baseOk_encodeId, if_true, decodeBoard_encodeId, decodeCode_encodeId]

@[simp] theorem decode_buildPing (b : Board) : decode (buildPing b) = .instr (.ping b) :=
  decode_encodeId _ _ _

@[simp] theorem decode_buildStart (b : Board) (len : Half) :
    decode (buildStart b len) = .instr (.start b len) :=
  calc decode (buildStart b len)
      = .instr (.start b (join16 (lo8 len) (hi8 len))) := decode_encodeId _ _ _
    _ = .instr (.start b len) := by rw [join16_lo8_hi8]

theorem decode_buildData (b : Board) {chunk : List Byte} (h : chunk.length = 8) :
    decode (buildData b chunk) = .instr (.data b chunk) :=
  calc decode (buildData b chunk)
      = if chunk.length = 8 then .instr (.data b chunk) else .rejected .wrongDlc :=
        decode_encodeId _ _ _
    _ = .instr (.data b chunk) := if_pos h

@[simp] theorem decode_buildStop (b : Board) (crc : Half) :
    decode (buildStop b crc) = .instr (.stop b crc) :=
  calc decode (buildStop b crc)
      = .instr (.stop b (join16 (lo8 crc) (hi8 crc))) := decode_encodeId _ _ _
    _ = .instr (.stop b crc) := by rw [join16_lo8_hi8]

/-- A report's row is decided by its subcode alone (R87). -/
@[simp] theorem decode_buildReport (b : Board) (body : ReportBody) (sub : Byte) :
    decode (buildReport b (body.payload sub)) = decodeReport b sub body :=
  decode_encodeId _ _ _

/-- Settles O1, row by row: each builder's frame decodes to the row it was built for, and each of the
four subcodes selects its own report. -/
theorem decodeInvertsEncode : Obligations.DecodeInvertsEncode := by
  intro i hwf
  cases i with
  | ping b => exact decode_buildPing b
  | start b len => exact decode_buildStart b len
  | data b chunk => exact decode_buildData b (of_decide_eq_true hwf)
  | stop b crc => exact decode_buildStop b crc
  | reportPong b body => exact decode_buildReport b body Config.subPong
  | reportReady b body => exact decode_buildReport b body Config.subReady
  | reportReadyFinal b body => exact decode_buildReport b body Config.subReadyFinal
  | reportDone b body => exact decode_buildReport b body Config.subDone

/-! ## Encoding what the decoder read (R89) -/

theorem encode_of_decodeReport {b : Board} {sub : Byte} {body : ReportBody} {i : Instr}
    (h : decodeReport b sub body = .instr i) :
    encode i = buildReport b (body.payload sub) ∧ i.WellFormed := by
  unfold decodeReport at h
  split_ifs at h with hpong hready hfinal hdone
  all_goals
    cases h
    subst sub
    exact ⟨rfl, rfl⟩

/-- A payload that is a row under a code is the one that row is built with, under that code. -/
theorem encode_of_decodePayload {b : Board} {c : Code} {data : List Byte} {i : Instr}
    (h : decodePayload b c data = .instr i) : encode i = ⟨encodeId b c, data⟩ ∧ i.WellFormed := by
  unfold decodePayload at h
  split_ifs at h with hping hstart hdata hlen hstop hreport
  · split at h <;> cases h
    exact ⟨by rw [hping]; rfl, rfl⟩
  · split at h <;> cases h
    exact ⟨by rw [hstart, encode, buildStart, lo8_join16, hi8_join16], rfl⟩
  · cases h
    exact ⟨by rw [hdata]; rfl, decide_eq_true hlen⟩
  · split at h <;> cases h
    exact ⟨by rw [hstop, encode, buildStop, lo8_join16, hi8_join16], rfl⟩
  · split at h
    · rw [hreport]
      exact encode_of_decodeReport h
    · cases h

/-- Settles O2: the identifier and the payload of a decoded frame are both its row's. -/
theorem decodedFrameIsItsRowsFrame : Obligations.DecodedFrameIsItsRowsFrame := by
  intro f i h
  have hfit : f.wf = true := Machine.wf_of_decode h
  unfold decode at h
  split at h
  next hbase =>
    obtain ⟨hencode, hwf⟩ := encode_of_decodePayload h
    rw [encodeId_decode hbase] at hencode
    exact ⟨hencode, hwf, hfit⟩
  next => cases h

/-! ## Frames as numbers -/

/-- START's and STOP's payload (R85). -/
theorem lo8_hi8_toNat (v : Half) :
    [lo8 v, hi8 v].map BitVec.toNat = [v.toNat % 256, v.toNat / 256] := by
  simp only [List.map_cons, List.map_nil, lo8_toNat, hi8_toNat]

/-- An identifier with the code's number `n` in its low digit (R84). -/
theorem encodeId_toNat_of_code (b : Board) {c : Code} {n : Nat} (hc : c.toNat = n) :
    (encodeId b c).toNat = 0x1B007100 + n + 16 * b.toNat := by
  rw [encodeId_toNat, hc]
  omega

/-- Settles O6: the identifiers are the formula at the four command codes. -/
theorem commandFramesAreLaidOut : Obligations.CommandFramesAreLaidOut := fun b v _ =>
  ⟨encodeId_toNat_of_code b rfl, rfl,
    encodeId_toNat_of_code b rfl, lo8_hi8_toNat v,
    encodeId_toNat_of_code b rfl, rfl,
    encodeId_toNat_of_code b rfl, lo8_hi8_toNat v⟩

/-- Settles O9: the frames are literals, so the decoder runs on each. -/
theorem writtenOutFramesDecode : Obligations.WrittenOutFramesDecode := by
  unfold Obligations.WrittenOutFramesDecode
  decide

end Sys2Proof
end

section
/-! The proofs of the family 40_address_codec: ENCODE keeps the board and the code apart, and its domain
is an interval of boards with the codes 0 and 2 to 5. -/

namespace Sys2Proof

/-! ## The pair is recovered from the identifier (R123, R124) -/

/-- Settles O3: the sum does not carry out of the code. -/
theorem codeOfIdentifierIsTheCode : Obligations.CodeOfIdentifierIsTheCode :=
  decodeCode_encodeId

/-- The two decoders are a left inverse of ENCODE. -/
theorem encodeId_inj {b b' : Board} {c c' : Code} (h : encodeId b c = encodeId b' c') :
    b = b' ∧ c = c' := by
  have hboard := congrArg decodeBoard h
  have hcode := congrArg decodeCode h
  rw [decodeBoard_encodeId, decodeBoard_encodeId] at hboard
  rw [decodeCode_encodeId, decodeCode_encodeId] at hcode
  exact ⟨hboard, hcode⟩

/-- Settles O4: bits 7 to 4 are DECODE_BOARD and bits 3 to 0 are DECODE_CODE. -/
theorem identifiersNeverCollide : Obligations.IdentifiersNeverCollide := fun b _ c _ =>
  ⟨encodeId_inj, decodeBoard_encodeId b c, decodeCode_encodeId b c⟩

/-! ## ENCODE on natural arguments (R120, R127) -/

theorem definedCode_iff {code : Nat} : definedCode code = true ↔ code = 0 ∨ 2 ≤ code ∧ code ≤ 5 := by
  simp only [definedCode, Bool.or_eq_true, beq_iff_eq]
  omega

/-- Operands that fit their four bits enter the sum as they are. -/
theorem encodeId_ofNat_toNat {board code : Nat} (hboard : board ≤ 15) (hcode : code ≤ 15) :
    (encodeId (BitVec.ofNat 4 board) (BitVec.ofNat 4 code)).toNat
      = 0x1B007100 + 16 * board + code := by
  rw [encodeId_toNat, BitVec.toNat_ofNat, BitVec.toNat_ofNat]
  omega

theorem encodeIdChecked_of_domain {board code : Nat} (hboard : board ≤ 15)
    (hcode : definedCode code = true) :
    encodeIdChecked board code = some (encodeId (BitVec.ofNat 4 board) (BitVec.ofNat 4 code)) :=
  if_pos ⟨hboard, hcode⟩

/-- ENCODE refuses exactly outside its domain (R127). -/
theorem encodeIdChecked_eq_none_iff {board code : Nat} :
    encodeIdChecked board code = none ↔ ¬ (board ≤ 15 ∧ definedCode code = true) := by
  simp only [encodeIdChecked, ite_eq_right_iff, reduceCtorEq, imp_false]

/-- Settles O5: inside the domain both operands fit four bits; outside it the domain's test fails. -/
theorem encodeComputesTheFormulaOrRefuses : Obligations.EncodeComputesTheFormulaOrRefuses := by
  intro board code
  constructor
  · intro hboard hcode
    have hfits : code ≤ 15 := by omega
    exact ⟨_, encodeIdChecked_of_domain hboard (definedCode_iff.mpr hcode),
      encodeId_ofNat_toNat hboard hfits⟩
  · intro houtside
    rw [encodeIdChecked_eq_none_iff, definedCode_iff]
    omega

end Sys2Proof
end

section
/-! The proofs of the family 41_checksum_engine: one iteration of CRC_UPDATE is linear over XOR and
loses nothing; the bit-serial and the table form, and the laws of the fold, follow from the iteration. -/

namespace Sys2Proof.Machine

/-! ## One iteration of the loop (R140) -/

@[simp] theorem crcShift_zero : crcShift 0 = 0 := by decide

theorem crcShift_of_lsb_false {c : Half} (h : c.getLsbD 0 = false) : crcShift c = c >>> 1 :=
  if_neg (by simp only [h, Bool.false_eq_true, not_false_eq_true])

theorem crcShift_of_lsb_true {c : Half} (h : c.getLsbD 0 = true) :
    crcShift c = (c >>> 1) ^^^ Config.crcPoly := if_pos h

/-- The iteration is linear: the feedback is the XOR of the two feedbacks. -/
theorem crcShift_xor (c d : Half) : crcShift (c ^^^ d) = crcShift c ^^^ crcShift d := by
  have hlsb : (c ^^^ d).getLsbD 0 = (c.getLsbD 0 ^^ d.getLsbD 0) := BitVec.getLsbD_xor
  have hshift : (c ^^^ d) >>> 1 = c >>> 1 ^^^ d >>> 1 := BitVec.ushiftRight_xor_distrib c d 1
  cases hc : c.getLsbD 0 <;> cases hd : d.getLsbD 0 <;> rw [hc, hd] at hlsb
  case false.false =>
    rw [crcShift_of_lsb_false hlsb, crcShift_of_lsb_false hc, crcShift_of_lsb_false hd, hshift]
  case false.true =>
    rw [crcShift_of_lsb_true hlsb, crcShift_of_lsb_false hc, crcShift_of_lsb_true hd, hshift]
    ac_rfl
  case true.false =>
    rw [crcShift_of_lsb_true hlsb, crcShift_of_lsb_true hc, crcShift_of_lsb_false hd, hshift]
    ac_rfl
  case true.true =>
    calc crcShift (c ^^^ d)
        = c >>> 1 ^^^ d >>> 1 := by rw [crcShift_of_lsb_false hlsb, hshift]
      _ = c >>> 1 ^^^ d >>> 1 ^^^ (Config.crcPoly ^^^ Config.crcPoly) := by
          rw [BitVec.xor_self, BitVec.xor_zero]
      _ = crcShift c ^^^ crcShift d := by
          rw [crcShift_of_lsb_true hc, crcShift_of_lsb_true hd]
          ac_rfl

/-- Bit 15 of the polynomial is set and the shift clears bit 15, so bit 15 holds the feedback. -/
theorem crcShift_getLsbD_fifteen (c : Half) : (crcShift c).getLsbD 15 = c.getLsbD 0 := by
  cases h : c.getLsbD 0 with
  | false => simp [crcShift_of_lsb_false h]
  | true => simp [crcShift_of_lsb_true h, Config.crcPoly]

/-- The LSB and the shifted value determine the accumulator. -/
theorem eq_of_lsb_of_ushiftRight_one {c d : Half} (hlsb : c.getLsbD 0 = d.getLsbD 0)
    (hshift : c >>> 1 = d >>> 1) : c = d := by
  refine BitVec.eq_of_getLsbD_eq fun i _ => ?_
  cases i with
  | zero => exact hlsb
  | succ k =>
    have hbit := congrArg (·.getLsbD k) hshift
    simpa [Nat.add_comm] using hbit

/-- The lost LSB stands in bit 15 of the result, so the feedback can be undone. -/
theorem crcShift_injective : Function.Injective crcShift := by
  intro c d h
  have hlsb : c.getLsbD 0 = d.getLsbD 0 := by
    rw [← crcShift_getLsbD_fifteen, ← crcShift_getLsbD_fifteen, h]
  refine eq_of_lsb_of_ushiftRight_one hlsb ?_
  cases hd : d.getLsbD 0 with
  | false => rwa [crcShift_of_lsb_false (hlsb.trans hd), crcShift_of_lsb_false hd] at h
  | true =>
    rw [crcShift_of_lsb_true (hlsb.trans hd), crcShift_of_lsb_true hd] at h
    exact (BitVec.xor_left_inj _).1 h

/-! ## `n` iterations -/

theorem crcShifts_xor (n : Nat) (c d : Half) :
    crcShifts n (c ^^^ d) = crcShifts n c ^^^ crcShifts n d := by
  induction n generalizing c d with
  | zero => rfl
  | succ n ih => simp only [crcShifts, crcShift_xor, ih]

@[simp] theorem crcShifts_zero (n : Nat) : crcShifts n 0 = 0 := by
  induction n with
  | zero => rfl
  | succ n ih => rw [crcShifts, crcShift_zero, ih]

theorem crcShifts_injective (n : Nat) : Function.Injective (crcShifts n) := by
  induction n with
  | zero => exact fun _ _ h => h
  | succ n ih => exact ih.comp crcShift_injective

/-- While the low bits are zero nothing is fed back: the iterations only shift. -/
theorem crcShifts_of_low_zero {n : Nat} {c : Half} (h : ∀ i < n, c.getLsbD i = false) :
    crcShifts n c = c >>> n := by
  induction n generalizing c with
  | zero => simp [crcShifts]
  | succ n ih =>
    have hlow : ∀ i < n, (c >>> 1).getLsbD i = false := fun i hi => by
      rw [BitVec.getLsbD_ushiftRight]
      exact h (1 + i) (by omega)
    calc crcShifts (n + 1) c
        = crcShifts n (c >>> 1) := by rw [crcShifts, crcShift_of_lsb_false (h 0 (by omega))]
      _ = c >>> 1 >>> n := ih hlow
      _ = c >>> (n + 1) := by rw [Nat.add_comm, BitVec.shiftRight_add]

/-! ## CRC_UPDATE (R140) -/

/-- The byte occupies the low eight bits only. -/
theorem zeroExtend_ushiftRight_of_le {byte : Byte} {i : Nat} (h : 8 ≤ i) :
    byte.zeroExtend 16 >>> i = 0 := by
  refine BitVec.eq_of_getLsbD_eq fun k _ => ?_
  have hbeyond : byte.getLsbD (i + k) = false := BitVec.getLsbD_of_ge _ _ (by omega)
  simp [hbeyond]

@[simp] theorem crcUpdate_zero : crcUpdate 0 0 = 0 := crcShifts_zero 8

theorem crcUpdate_xor (c d : Half) (x y : Byte) :
    crcUpdate (c ^^^ d) (x ^^^ y) = crcUpdate c x ^^^ crcUpdate d y := by
  have hregroup : c ^^^ d ^^^ (x ^^^ y).zeroExtend 16
      = (c ^^^ x.zeroExtend 16) ^^^ (d ^^^ y.zeroExtend 16) := by
    rw [BitVec.zeroExtend, BitVec.setWidth_xor]
    ac_rfl
  rw [crcUpdate, hregroup, crcShifts_xor, crcUpdate, crcUpdate]

/-- Settles O13: the XOR of the byte and the eight iterations are each injective. -/
theorem checksumUpdateIsInjective : Obligations.ChecksumUpdateIsInjective := fun _ _ _ h =>
  (BitVec.xor_left_inj _).1 (crcShifts_injective 8 h)

/-! ## The bit-serial form (R142) -/

/-- One clock takes bit 0 of the pending data `x` and leaves the rest of `x` to be XORed in later. -/
theorem crcShift_xor_eq_crcSerialBit (c x : Half) :
    crcShift (c ^^^ x) = crcSerialBit c (x.getLsbD 0) ^^^ (x >>> 1) := by
  unfold crcShift crcSerialBit
  rw [BitVec.getLsbD_xor, BitVec.ushiftRight_xor_distrib]
  split
  · ac_rfl
  · rfl

/-- After `i` clocks the data still to come is the byte shifted right by `i`. -/
theorem crcSerialFrom_eq_crcShifts (n i : Nat) (c : Half) (byte : Byte) (h : 8 ≤ i + n) :
    crcSerialFrom n i c byte = crcShifts n (c ^^^ byte.zeroExtend 16 >>> i) := by
  induction n generalizing i c with
  | zero =>
    rw [zeroExtend_ushiftRight_of_le (by omega), BitVec.ofNat_eq_ofNat, BitVec.xor_zero]
    rfl
  | succ n ih =>
    have hbit : (byte.zeroExtend 16 >>> i).getLsbD 0 = byte.getLsbD i := by
      by_cases hi : i < 8
      · have hfits : i < 16 := by omega
        simp [hfits]
      · simp [BitVec.getLsbD_of_ge byte i (by omega)]
    rw [crcSerialFrom, crcShifts, crcShift_xor_eq_crcSerialBit, hbit,
      ← BitVec.shiftRight_add]
    exact ih (i + 1) _ (by omega)

/-- Settles O11: before the first clock the whole byte is pending. -/
theorem serialChecksumAgrees : Obligations.SerialChecksumAgrees := fun crc byte => by
  rw [crcUpdateSerial, crcSerialFrom_eq_crcShifts 8 0 crc byte (by decide),
    BitVec.ushiftRight_zero, crcUpdate]

/-! ## The table form (R149) -/

theorem crcTable_eq (i : Byte) : crcTable i = crcShifts 8 (i.zeroExtend 16) := by
  rw [crcTable, crcUpdate, BitVec.ofNat_eq_ofNat, BitVec.zero_xor]

/-- The low byte of a value, at the value's width. -/
def lowByte (x : Half) : Half := (x.extractLsb' 0 8).zeroExtend 16

theorem crcShifts_lowByte (x : Half) : crcShifts 8 (lowByte x) = crcTable (x.extractLsb' 0 8) :=
  (crcTable_eq _).symm

/-- XORing a value with its own low byte clears that byte and nothing else. -/
theorem getLsbD_xor_lowByte (x : Half) (i : Nat) :
    (x ^^^ lowByte x).getLsbD i = (x.getLsbD i && decide (8 ≤ i)) := by
  by_cases hi : i < 8
  · have hfits : i < 16 := by omega
    simp [lowByte, hi, hfits]
  · have hbeyond : 8 ≤ i := by omega
    simp [lowByte, hbeyond]

/-- The high byte only shifts through the eight iterations, and the table holds the low byte's part. -/
theorem crcShifts_eight_eq_table (x : Half) :
    crcShifts 8 x = x >>> 8 ^^^ crcTable (x.extractLsb' 0 8) := by
  have hclear : ∀ i < 8, (x ^^^ lowByte x).getLsbD i = false := fun i hi => by
    rw [getLsbD_xor_lowByte, decide_eq_false (by omega), Bool.and_false]
  have hhigh : (x ^^^ lowByte x) >>> 8 = x >>> 8 := by
    refine BitVec.eq_of_getLsbD_eq fun i _ => ?_
    rw [BitVec.getLsbD_ushiftRight, getLsbD_xor_lowByte]
    simp
  calc crcShifts 8 x
      = crcShifts 8 (x ^^^ lowByte x ^^^ lowByte x) := by
        rw [BitVec.xor_assoc, BitVec.xor_self, BitVec.xor_zero]
    _ = crcShifts 8 (x ^^^ lowByte x) ^^^ crcShifts 8 (lowByte x) := crcShifts_xor 8 _ _
    _ = x >>> 8 ^^^ crcTable (x.extractLsb' 0 8) := by
        rw [crcShifts_of_low_zero hclear, hhigh, crcShifts_lowByte]

/-- Settles O12: the byte reaches only the low half, so the high half shifted down is `crc`'s. -/
theorem tableChecksumAgrees : Obligations.TableChecksumAgrees := fun crc byte => by
  have hhigh : (crc ^^^ byte.zeroExtend 16) >>> 8 = crc >>> 8 := by
    rw [BitVec.ushiftRight_xor_distrib, zeroExtend_ushiftRight_of_le (Nat.le_refl 8),
      BitVec.ofNat_eq_ofNat, BitVec.xor_zero]
  rw [crcUpdateTable, crcUpdate, crcShifts_eight_eq_table, hhigh]

/-! ## CRC_OVER (R143, R144, R148) -/

/-- Settles O10: a left fold over an append folds the two pieces in turn. -/
theorem checksumFoldsAcrossChunks : Obligations.ChecksumFoldsAcrossChunks := crcOver_append

theorem crcOver_cons (x : Byte) (xs : List Byte) (c : Half) :
    crcOver (x :: xs) c = crcOver xs (crcUpdate c x) := rfl

/-- The fold is linear in the bytes and in the initial value together. -/
theorem crcOver_xor {a b : List Byte} (h : a.length = b.length) (c d : Half) :
    crcOver (List.zipWith (· ^^^ ·) a b) (c ^^^ d) = crcOver a c ^^^ crcOver b d := by
  induction a generalizing b c d with
  | nil =>
    obtain rfl : b = [] := List.length_eq_zero_iff.1 h.symm
    rfl
  | cons x xs ih =>
    cases b with
    | nil => simp at h
    | cons y ys =>
      rw [List.zipWith_cons_cons, crcOver_cons, crcUpdate_xor, crcOver_cons, crcOver_cons]
      exact ih (Nat.succ.inj h) _ _

/-- Settles O14: both folds start from 0, and 0 is its own XOR with itself. -/
theorem checksumIsLinear : Obligations.ChecksumIsLinear := fun _ _ h => crcOver_xor h 0 0

theorem crcOver_replicate_zero (n : Nat) : crcOver (List.replicate n 0) 0 = 0 := by
  induction n with
  | zero => rfl
  | succ n ih => rw [List.replicate_succ, crcOver_cons, crcUpdate_zero, ih]

/-- Settles O15: the zeros leave the accumulator at 0, where the fold over `a` begins. -/
theorem checksumIgnoresLeadingZeros : Obligations.ChecksumIgnoresLeadingZeros := fun n a => by
  rw [crcOver_append, crcOver_replicate_zero]
  exact ⟨rfl, rfl⟩

end Sys2Proof.Machine
end

section
/-! The proofs of the family 42_discovery: how SCAN and PING begin, what each does with an outcome, and
a whole SCAN as a run. An input's step is said once for the operator's events and once for an outcome of
the channel, whose frame may or may not be a row of the table; the sequencer's equations do the rest. -/

namespace Sys2Proof.Machine

/-! ## The step that an input takes -/

theorem fetch_of_inputs {s : State} {e : Event} {rest : List Event} (hi : s.inputs = e :: rest) :
    fetch s = act e (State.log (.event e) { s with inputs := rest }) :=
  fetch_of_nextEvent (State.nextEvent_of_inputs hi)

theorem step_of_fetch_acted {s : State} {o : Out} (h : fetch s = .acted o) : step s = o := by
  simp only [step, h]

/-- The state in which the sequencers meet an outcome: it stands in the trace, and a frame has come to
the port of CBU. -/
def State.takeRx (s : State) (o : RxOutcome) (rest : List Event) : State :=
  { s with
    inputs := rest, port := if o = .none then s.port else .host
    trace := s.trace ++ [.event (.rx o)] }

/-- CBU treats a row of the table and a frame that is none alike: either is the outcome it is. -/
theorem step_of_rx {s : State} {o : RxOutcome} {rest : List Event} (hi : s.inputs = .rx o :: rest)
    (hwf : o.wf = true) : step s = hostReceive o (s.takeRx o rest) := by
  cases o with
  | none => exact step_of_fetch_acted (fetch_of_inputs hi)
  | frame f =>
    cases hd : decode f with
    | instr i =>
      obtain ⟨henc, -, -⟩ := decodedFrameIsItsRowsFrame f i hd
      rw [step_of_received hd (State.nextEvent_of_inputs hi), exec_host i rfl, henc]
      rfl
    | rejected why =>
      have hfetch : fetch s = .acted (hostReceive (.frame f) (s.takeRx (.frame f) rest)) := by
        rw [fetch_of_inputs hi, act, fetchFrame, if_pos (show f.wf = true from hwf), hd]
        rfl
      exact step_of_fetch_acted hfetch

/-- The state after an event on which SCAN asks board `b`: its PING is sent and its wait begins. -/
def State.askBoard (s : State) (e : Event) (p : Port) (b : Board) (cs : List ScanClass)
    (rest : List Event) : State :=
  { s with
    inputs := rest
    dsq := .scanning b cs
    port := p
    trace := s.trace ++ [.event e, .sent (buildPing b)]
    toTarget := s.toTarget ++ [buildPing b]
    toHost := [], unread := s.unread ++ s.toHost }

/-! ## Where SCAN and PING begin (42_discovery R171, R175) -/

theorem State.not_quiet_iff {s : State} : ¬ s.quiet ↔ s.state ≠ .idle ∨ s.dsq ≠ .idle :=
  not_and_or

section Begin

variable {s : State} {board : Nat}

theorem scan_of_noDiscovery (hd : s.params.hasDiscovery = false) : scan s = .refused .noDiscovery :=
  if_pos hd

theorem scan_of_not_quiet (hd : s.params.hasDiscovery = true) (hq : ¬ s.quiet) :
    scan s = .fault .discoveryOutsideIdle := by
  rw [scan, if_neg (by simp [hd]), if_pos (State.not_quiet_iff.1 hq)]

theorem scan_of_quiet (hd : s.params.hasDiscovery = true) (hq : s.quiet) :
    scan s = .next { State.send (buildPing 0) s with dsq := .scanning 0 [] } := by
  rw [scan, if_neg (by simp [hd]), if_neg (State.not_quiet_iff.not_right.1 hq)]

theorem pingBoard_of_noDiscovery (hd : s.params.hasDiscovery = false) :
    pingBoard board s = .refused .noDiscovery :=
  if_pos hd

theorem pingBoard_of_not_quiet (hd : s.params.hasDiscovery = true) (hq : ¬ s.quiet) :
    pingBoard board s = .fault .discoveryOutsideIdle := by
  rw [pingBoard, if_neg (by simp [hd]), if_pos (State.not_quiet_iff.1 hq)]

theorem pingBoard_of_quiet (hd : s.params.hasDiscovery = true) (hq : s.quiet) :
    pingBoard board s =
      if board > 15 then .refused .boardOutOfRange
      else .next { State.send (buildPing (BitVec.ofNat 4 board)) s with
        dsq := .pinging (BitVec.ofNat 4 board) } := by
  rw [pingBoard, if_neg (by simp [hd]), if_neg (State.not_quiet_iff.not_right.1 hq)]

end Begin

theorem step_of_scan {s : State} {rest : List Event} (hi : s.inputs = .scan :: rest) :
    step s = scan (State.log (.event .scan) { s with inputs := rest }) :=
  step_of_fetch_acted (fetch_of_inputs hi)

theorem step_of_ping {s : State} {board : Nat} {rest : List Event}
    (hi : s.inputs = .ping board :: rest) :
    step s = pingBoard board (State.log (.event (.ping board)) { s with inputs := rest }) :=
  step_of_fetch_acted (fetch_of_inputs hi)

theorem step_scan_of_quiet {s : State} {rest : List Event} (hi : s.inputs = .scan :: rest)
    (hd : s.params.hasDiscovery = true) (hq : s.quiet) :
    step s = .next (s.askBoard .scan s.port 0 [] rest) := by
  rw [step_of_scan hi, scan_of_quiet (by exact hd) (by exact hq)]
  simp [State.askBoard, State.send, State.log]

/-- Settles O42: an event's line in the trace changes none of the tests with which PING and SCAN
begin. -/
theorem discoveryBeginsOnlyWhenQuiet : Obligations.DiscoveryBeginsOnlyWhenQuiet := by
  intro s board rest
  refine ⟨fun hi => ?ping, fun hi => ?scan⟩
  case ping =>
    refine ⟨fun hd => ?_, fun hd hq => ?_, fun hd hq hboard => ?_, fun hd hq hboard => ?_⟩
    · exact (step_of_ping hi).trans (pingBoard_of_noDiscovery hd)
    · exact (step_of_ping hi).trans (pingBoard_of_not_quiet hd hq)
    · rw [step_of_ping hi, pingBoard_of_quiet (by exact hd) (by exact hq), if_pos hboard]
    · rw [step_of_ping hi, pingBoard_of_quiet (by exact hd) (by exact hq), if_neg hboard.not_gt]
      simp [State.send, State.log]
  case scan =>
    refine ⟨fun hd => ?_, fun hd hq => ?_, step_scan_of_quiet hi⟩
    · exact (step_of_scan hi).trans (scan_of_noDiscovery hd)
    · exact (step_of_scan hi).trans (scan_of_not_quiet hd hq)

/-! ## What the discovery sequencer does with an outcome (R171, R175) -/

section Receive

variable {s : State} (hw : s.state.isWait = false)

include hw

theorem hostReceive_of_not_wait (o : RxOutcome) : hostReceive o s = discoveryReceive o s := by
  rw [hostReceive, if_neg (by simp [hw])]

theorem hostReceive_pinging {b : Board} (hd : s.dsq = .pinging b) (o : RxOutcome) :
    hostReceive o s = .next
      { s with dsq := .idle, trace := s.trace ++ [.result (.ping (pingResult o))] } := by
  simp only [hostReceive_of_not_wait hw, discoveryReceive, hd, rxPinging, State.log]

theorem hostReceive_scanning_last {cs : List ScanClass} (hd : s.dsq = .scanning 15 cs)
    (o : RxOutcome) :
    hostReceive o s = .next
      { s with
        dsq := .idle, trace := s.trace ++ [.result (.scan (cs ++ [scanClassify 15 o]))] } := by
  simp only [hostReceive_of_not_wait hw, discoveryReceive, hd, rxScanning, Config.lastBoard, if_true,
    State.log]

theorem hostReceive_scanning_next {b : Board} {cs : List ScanClass} (hb : b ≠ 15)
    (hd : s.dsq = .scanning b cs) (o : RxOutcome) :
    hostReceive o s = .next
      { s with
        dsq := .scanning (b + 1) (cs ++ [scanClassify b o])
        trace := s.trace ++ [.sent (buildPing (b + 1))]
        toTarget := s.toTarget ++ [buildPing (b + 1)]
        toHost := [], unread := s.unread ++ s.toHost } := by
  simp only [hostReceive_of_not_wait hw, discoveryReceive, hd, rxScanning, Config.lastBoard, hb,
    if_false, State.send]

/-! The same as steps, the outcome being the next input. -/

variable {o : RxOutcome} {rest : List Event} (hi : s.inputs = .rx o :: rest) (hwf : o.wf = true)

include hi hwf

theorem step_pinging {b : Board} (hd : s.dsq = .pinging b) :
    step s = .next
      { s with
        inputs := rest, dsq := .idle, port := if o = .none then s.port else .host
        trace := s.trace ++ [.event (.rx o), .result (.ping (pingResult o))] } := by
  rw [step_of_rx hi hwf, hostReceive_pinging (by exact hw) (by exact hd)]
  simp [State.takeRx]

theorem step_scanning_last {cs : List ScanClass} (hd : s.dsq = .scanning 15 cs) :
    step s = .next
      { s with
        inputs := rest, dsq := .idle, port := if o = .none then s.port else .host
        trace := s.trace ++ [.event (.rx o), .result (.scan (cs ++ [scanClassify 15 o]))] } := by
  rw [step_of_rx hi hwf, hostReceive_scanning_last (by exact hw) (by exact hd)]
  simp [State.takeRx]

theorem step_scanning_next {b : Board} {cs : List ScanClass} (hb : b ≠ 15)
    (hd : s.dsq = .scanning b cs) :
    step s = .next
      (s.askBoard (.rx o) (if o = .none then s.port else .host) (b + 1)
        (cs ++ [scanClassify b o]) rest) := by
  rw [step_of_rx hi hwf, hostReceive_scanning_next (by exact hw) hb (by exact hd)]
  simp [State.takeRx, State.askBoard]

end Receive

/-! ## What PING makes of a frame (R175, 44_report_reader R231, R236) -/

theorem rfd_report {f : Frame} (h : decodeCode f.id = Config.codeReport) :
    rfd (.frame f) = .report f.data :=
  if_pos h

theorem rfd_other {f : Frame} (h : decodeCode f.id ≠ Config.codeReport) :
    rfd (.frame f) = .noReport 1 :=
  if_neg h

theorem decodeCode_eq_report_iff {id : CanId} :
    decodeCode id = Config.codeReport ↔ id.toNat % 16 = 5 := by
  rw [← decodeCode_toNat, ← BitVec.toNat_inj]
  rfl

theorem pingResult_of_report {id : CanId} (h : decodeCode id = Config.codeReport) (body : ReportBody)
    (sub : Byte) :
    pingResult (.frame ⟨id, body.payload sub⟩) =
      .pongInfo body.vmaj body.vmin body.vpat body.health (decide (body.health = 1)) body.rsv6
        body.rsv7 := by
  rw [pingResult, rfd_report h]
  rfl

theorem pingResult_of_short {f : Frame} (h : decodeCode f.id = Config.codeReport)
    (hshort : f.data.length < 8) : pingResult (.frame f) = .failMalformed := by
  simp only [pingResult, rfd_report h, hshort, if_true]

theorem pingResult_of_other {f : Frame} (h : decodeCode f.id ≠ Config.codeReport) :
    pingResult (.frame f) = .failNoReport 1 := by
  simp only [pingResult, rfd_other h]

/-- Settles O38: RFD passes on the bytes of any frame with the code REPORT, and PING reads the fields
of R86 in them and tests no subcode. -/
theorem reportAnswersPing : Obligations.ReportAnswersPing := by
  intro b s hw hd
  refine ⟨fun i board body hrow hp => ?row, fun id d0 d1 d2 d3 d4 d5 d6 d7 rest hi hcode => ?step⟩
  case row =>
    have hframe : ∃ sub, encode i = buildReport board (body.payload sub) := by
      rcases hrow with rfl | rfl | rfl | rfl <;> exact ⟨_, rfl⟩
    obtain ⟨sub, hsub⟩ := hframe
    rw [exec_host i hp, hsub, hostReceive_pinging hw hd, buildReport,
      pingResult_of_report (decodeCode_encodeId board _)]
  case step =>
    have hresult := pingResult_of_report (decodeCode_eq_report_iff.2 hcode)
      ⟨d0, d1, d2, d3, d5, d6, d7⟩ d4
    rw [step_pinging hw hi rfl hd]
    exact congrArg _ (by rw [← hresult]; rfl)

/-- The identifier of a command row carries its own code (30_encoding R82), which is not REPORT's. -/
theorem decodeCode_command_ne_report {i : Instr} {board : Board} {v : Half} {chunk : List Byte}
    (hrow : i = .ping board ∨ i = .start board v ∨ i = .data board chunk ∨ i = .stop board v) :
    decodeCode (encode i).id ≠ Config.codeReport := by
  have hcode : ∃ c, c ≠ Config.codeReport ∧ (encode i).id = encodeId board c := by
    rcases hrow with rfl | rfl | rfl | rfl
    · exact ⟨Config.codePing, by decide, rfl⟩
    · exact ⟨Config.codeStart, by decide, rfl⟩
    · exact ⟨Config.codeData, by decide, rfl⟩
    · exact ⟨Config.codeStop, by decide, rfl⟩
  obtain ⟨c, hc, hid⟩ := hcode
  rwa [hid, decodeCode_encodeId]

/-- Settles O39, by what RFD makes of the outcome: nothing, a frame it rejects, or too few bytes. -/
theorem noReportFailsPing : Obligations.NoReportFailsPing := by
  intro b s hw hd
  refine ⟨fun i board v chunk hrow hp => ⟨1, ?row⟩, fun rest hi => ⟨0, step_pinging hw hi rfl hd⟩,
    fun f rest hi => ⟨fun hcode hlen => ⟨1, ?other⟩, fun hcode hshort => ?short⟩⟩
  case row =>
    rw [exec_host i hp, hostReceive_pinging hw hd,
      pingResult_of_other (decodeCode_command_ne_report hrow)]
  case other =>
    rw [step_pinging hw hi (decide_eq_true hlen) hd,
      pingResult_of_other (mt decodeCode_eq_report_iff.1 hcode)]
    rfl
  case short =>
    rw [step_pinging hw hi (decide_eq_true hshort.le) hd,
      pingResult_of_short (decodeCode_eq_report_iff.2 hcode) hshort]
    rfl

/-! ## What SCAN classifies a frame as (R172) -/

theorem scanClassify_of_not_ok {b : Board} {f : Frame} (h : scanClassify b (.frame f) ≠ .ok) :
    scanClassify b (.frame f) = .err :=
  if_neg fun htests => h (if_pos htests)

theorem scanClassify_ok_iff_tests {b : Board} {f : Frame} :
    scanClassify b (.frame f) = .ok ↔
      f.id = encodeId b Config.codeReport ∧ f.dlc = 8 ∧ reportSubcode f.data = Config.subPong := by
  simp [scanClassify]

theorem id_eq_report_iff {id : CanId} {b : Board} :
    id = encodeId b Config.codeReport ↔ id.toNat = 0x1B007105 + 16 * b.toNat := by
  rw [← BitVec.toNat_inj, encodeId_toNat_of_code b (n := 5) rfl]

theorem reportSubcode_eq_iff {data : List Byte} {sub : Byte} (h : data.length = 8) :
    reportSubcode data = sub ↔ data[4]? = some sub := by
  simp [reportSubcode, byteAt, h]

/-- The three tests as R172 writes them, in numbers. -/
theorem scanClassify_ok_iff {b : Board} {f : Frame} :
    scanClassify b (.frame f) = .ok ↔
      f.id.toNat = 0x1B007105 + 16 * b.toNat ∧ f.data.length = 8 ∧ f.data[4]? = some 0 := by
  rw [scanClassify_ok_iff_tests, id_eq_report_iff]
  exact and_congr_right fun _ => and_congr_right reportSubcode_eq_iff

/-- Of the rows, the tests hold of the board's PONG: a command fails on its code, the PONG of another
board on its board, and the other reports on their subcode. -/
theorem scanClassify_encode_ok_iff {b : Board} {i : Instr} :
    scanClassify b (.frame (encode i)) = .ok ↔ ∃ body, i = .reportPong b body := by
  constructor
  · intro hok
    obtain ⟨hid, -, hsub⟩ := scanClassify_ok_iff_tests.1 hok
    cases i with
    | ping _ | start _ _ | data _ _ | stop _ _ => exact absurd (encodeId_inj hid).2 (by decide)
    | reportPong b' body =>
      obtain ⟨rfl, -⟩ := encodeId_inj hid
      exact ⟨body, rfl⟩
    | reportReady _ _ => exact absurd (show Config.subReady = Config.subPong from hsub) (by decide)
    | reportReadyFinal _ _ =>
      exact absurd (show Config.subReadyFinal = Config.subPong from hsub) (by decide)
    | reportDone _ _ => exact absurd (show Config.subDone = Config.subPong from hsub) (by decide)
  · rintro ⟨body, rfl⟩
    exact scanClassify_ok_iff_tests.2 ⟨rfl, rfl, rfl⟩

/-- Settles O40: the class is SCAN_CLASSIFY of the outcome, a row being the frame that it is, and the
sequencer answers with it at board 15 or goes on. -/
theorem scanClassifiesTheFrameAndGoesOn : Obligations.ScanClassifiesTheFrameAndGoesOn := by
  intro b cs s c hw hd
  refine ⟨fun i _ hp hc => ?row, fun o rest hi hc => ?outcome⟩
  case row =>
    have hclass : c = scanClassify b (.frame (encode i)) := by
      obtain ⟨hpong, rfl⟩ | ⟨hother, rfl⟩ := hc
      · exact (scanClassify_encode_ok_iff.2 hpong).symm
      · exact (scanClassify_of_not_ok (mt scanClassify_encode_ok_iff.1 hother)).symm
    subst hclass
    rw [exec_host i hp]
    refine ⟨fun hb => ?_, fun hb => hostReceive_scanning_next hw hb hd _⟩
    subst hb
    exact hostReceive_scanning_last hw hd _
  case outcome =>
    have hclass : c = scanClassify b o ∧ o.wf = true := by
      obtain ⟨rfl, rfl⟩ | ⟨f, rfl, hlen, ⟨hid, hdata, hsub, rfl⟩ | ⟨htests, rfl⟩⟩ := hc
      · exact ⟨rfl, rfl⟩
      · exact ⟨(scanClassify_ok_iff.2 ⟨hid, hdata, hsub⟩).symm, decide_eq_true hlen⟩
      · exact ⟨(scanClassify_of_not_ok (mt scanClassify_ok_iff.1 htests)).symm, decide_eq_true hlen⟩
    obtain ⟨rfl, hwf⟩ := hclass
    refine ⟨fun hb => ?_, fun hb => step_scanning_next hw hi hwf hb hd⟩
    subst hb
    exact step_scanning_last hw hi hwf hd

/-! ## A whole SCAN as a run (R171) -/

theorem run_of_step {s s' : State} (h : step s = .next s') (k : Nat) :
    Sys2Proof.core.run (k + 1) s = Sys2Proof.core.run k s' := by
  have hcore : Sys2Proof.core.step s = .next s' := h
  simp only [Host.Core.run, hcore]

/-- What SCAN leaves when it ends: beside the inputs, the trace, the port and the frames in flight, only
the discovery position differs; these frames were sent, and the one result holds these classes. -/
structure EndsScan (s t : State) (rest : List Event) (frames : List Frame)
    (classes : List ScanClass) : Prop where
  keeps : t = { s with
    inputs := rest, dsq := .idle, trace := t.trace, port := t.port, toTarget := t.toTarget
    toHost := [], unread := s.unread ++ s.toHost }
  sends : t.sent = s.sent ++ frames
  answers : t.results = s.results ++ [.scan classes]

theorem EndsScan.of_askBoard {s t : State} {e : Event} {p : Port} {b : Board} {cs : List ScanClass}
    {rest rest' : List Event} {frames : List Frame} {classes : List ScanClass}
    (h : EndsScan (s.askBoard e p b cs rest') t rest frames classes) :
    EndsScan s t rest (buildPing b :: frames) classes where
  keeps := h.keeps.trans (by simp [State.askBoard])
  sends := h.sends.trans (by
    simp [State.askBoard, State.sent, List.filterMap_cons, TraceItem.sentFrame])
  answers := h.answers.trans (by
    simp [State.askBoard, State.results, List.filterMap_cons, TraceItem.dsqResult])

/-- The PINGs of `n` boards from `b` on. -/
def pingsFrom (b n : Nat) : List Frame :=
  (List.range' b n).map (fun b => buildPing (BitVec.ofNat 4 b))

/-- SCAN_CLASSIFY of each outcome, at the boards from `b` on. -/
def classesFrom (b : Nat) (os : List RxOutcome) : List ScanClass :=
  List.zipWith (fun b o => scanClassify (BitVec.ofNat 4 b) o) (List.range' b os.length) os

theorem pingsFrom_succ (b n : Nat) :
    pingsFrom b (n + 1) = buildPing (BitVec.ofNat 4 b) :: pingsFrom (b + 1) n := rfl

theorem classesFrom_cons (b : Nat) (o : RxOutcome) (os : List RxOutcome) :
    classesFrom b (o :: os) = scanClassify (BitVec.ofNat 4 b) o :: classesFrom (b + 1) os := rfl

theorem ofNat_ne_lastBoard {b : Nat} (h : b < 15) : BitVec.ofNat 4 b ≠ 15 := by
  bv_omega

theorem endsScan_of_lastBoard {s : State} {o : RxOutcome} {cs : List ScanClass} {rest : List Event}
    (hh : s.toHost = []) :
    EndsScan s
      { s with
        inputs := rest, dsq := .idle, port := if o = .none then s.port else .host
        trace := s.trace ++ [.event (.rx o), .result (.scan (cs ++ [scanClassify 15 o]))] }
      rest [] (cs ++ [scanClassify 15 o]) where
  keeps := by simp [hh]
  sends := by simp [State.sent, TraceItem.sentFrame]
  answers := by simp [State.results, List.filterMap_cons, TraceItem.dsqResult]

/-- From the wait of board `b` on, with the outcome of that wait and of every later one among the inputs
and no reply in flight. -/
theorem run_scanning {rest : List Event} (os : List RxOutcome) :
    ∀ (o : RxOutcome) (b : Nat) (cs : List ScanClass) (s : State), s.state.isWait = false →
      s.dsq = .scanning (BitVec.ofNat 4 b) cs → s.toHost = [] → b + os.length = 15 →
      (o :: os).all RxOutcome.wf = true → s.inputs = (o :: os).map Event.rx ++ rest →
        ∃ t, Sys2Proof.core.run (os.length + 1) s = .next t ∧
          EndsScan s t rest (pingsFrom (b + 1) os.length) (cs ++ classesFrom b (o :: os)) := by
  induction os with
  | nil =>
    intro o b cs s hw hd hh hb hwf hi
    obtain rfl : b = 15 := hb
    have hstep := step_scanning_last hw hi (by simpa using hwf) hd
    exact ⟨_, run_of_step hstep 0, endsScan_of_lastBoard hh⟩
  | cons o' os ih =>
    intro o b cs s hw hd hh hb hwf hi
    rw [List.length_cons] at hb
    rw [List.all_cons, Bool.and_eq_true] at hwf
    obtain ⟨ho, hos⟩ := hwf
    have hstep := step_scanning_next hw hi ho (ofNat_ne_lastBoard (by omega)) hd
    rw [show BitVec.ofNat 4 b + 1 = BitVec.ofNat 4 (b + 1) from (BitVec.ofNat_add b 1).symm] at hstep
    obtain ⟨t, hrun, hends⟩ := ih o' (b + 1) (cs ++ [scanClassify (BitVec.ofNat 4 b) o])
      (s.askBoard _ _ _ _ _) hw rfl rfl (by omega) hos rfl
    refine ⟨t, (run_of_step hstep _).trans hrun, ?_⟩
    rw [List.length_cons, pingsFrom_succ, classesFrom_cons, List.append_cons]
    exact hends.of_askBoard

/-- Settles O41: the SCAN event sends the first PING, and the waits that follow send the others, each on
the outcome before it. -/
theorem scanVisitsEveryBoard : Obligations.ScanVisitsEveryBoard := by
  intro s os rest hq hd hlen hwf hi
  obtain ⟨o, os, rfl⟩ : ∃ o os', os = o :: os' := List.exists_cons_of_length_eq_add_one hlen
  have hlen' : os.length = 15 := by simpa using hlen
  obtain ⟨t, hrun, hends⟩ := run_scanning (rest := rest) os o 0 [] (s.askBoard .scan _ _ _ _)
    (congrArg SeqState.isWait hq.1) rfl rfl (by omega) hwf rfl
  rw [hlen'] at hrun hends
  obtain ⟨hkeeps, hsends, hanswers⟩ := hends.of_askBoard
  refine ⟨t, (run_of_step (step_scan_of_quiet hi hd hq) 16).trans hrun,
    hkeeps.trans (by rw [hq.2]), hsends, ?_⟩
  rw [hanswers, classesFrom, hlen, List.range_eq_range', List.nil_append]

end Sys2Proof.Machine
end

section
/-! The proofs of the family 43_upload_sequencer: the padded length, the steps of the operator's events,
what USQ does with an outcome in each of its waits, and whole sessions as runs. An outcome in a wait is
one CHECK against the subcode which that wait awaits (`hostReceive_of_wait`); a session's registers are
said once for all its waits, by the number of the command whose reply is awaited (`State.AtWait`). -/

namespace Sys2Proof.Machine

/-! ## The padded length (43_upload_sequencer R193) -/

/-- Settles O16: the padding is the distance to the next multiple of 8, which LITERAL takes as 8 where
it is 0. -/
theorem paddingFollowsThePolicy : Obligations.PaddingFollowsThePolicy := by
  intro l
  simp only [paddedLen, padLen]
  refine ⟨?multiple, ?notBelow, ?smallest, ?literalSame, ?literalMore⟩ <;> omega

/-! ## The operator's events as steps -/

theorem step_of_load {s : State} {board : Nat} {image : Image} {rest : List Event}
    (hi : s.inputs = .load board image :: rest) :
    step s = load board image (State.log (.event (.load board image)) { s with inputs := rest }) :=
  step_of_fetch_acted (fetch_of_inputs hi)

theorem step_of_abort {s : State} {rest : List Event} (hi : s.inputs = .abort :: rest) :
    step s = abort (State.log (.event .abort) { s with inputs := rest }) :=
  step_of_fetch_acted (fetch_of_inputs hi)

theorem step_of_release {s : State} {rest : List Event} (hi : s.inputs = .release :: rest) :
    step s = release (State.log (.event .release) { s with inputs := rest }) :=
  step_of_fetch_acted (fetch_of_inputs hi)

/-! ## LOAD, its tests in the order of 60_exceptions R311 (R191, R192, R194) -/

section Load

variable {s : State} {board : Nat} {image : Image}

theorem load_of_not_quiet (hq : ¬ s.quiet) : load board image s = .fault .loadOutsideIdle :=
  if_pos (State.not_quiet_iff.1 hq)

variable (hq : s.quiet)

include hq

theorem load_of_board_gt (hb : board > 15) : load board image s = .refused .boardOutOfRange := by
  rw [load, if_neg (State.not_quiet_iff.not_right.1 hq), if_pos hb]

variable (hb : board ≤ 15)

include hb

theorem load_of_precondition (himg : image.nseg ≠ 1 ∨ image.base ≠ 0) :
    ∃ p, load board image s = .next (State.failFrom .precondition { s with presub := p }) := by
  rw [load, if_neg (State.not_quiet_iff.not_right.1 hq), if_neg hb.not_gt]
  by_cases hseg : image.nseg = 1
  · exact ⟨1, by rw [if_neg (not_not.2 hseg), if_pos (himg.resolve_left (not_not.2 hseg))]⟩
  · exact ⟨0, if_pos hseg⟩

variable (hseg : image.nseg = 1) (hbase : image.base = 0)

include hseg hbase

theorem load_of_too_long (hlong : paddedLen s.params.padPolicy image.len > Config.maxPadded) :
    load board image s = .refused .imageTooLong := by
  rw [load, if_neg (State.not_quiet_iff.not_right.1 hq), if_neg hb.not_gt, if_neg (not_not.2 hseg),
    if_neg (not_not.2 hbase), if_pos hlong]

theorem load_of_admitted (hfits : paddedLen s.params.padPolicy image.len ≤ Config.maxPadded)
    (hwf : image.wf = true) :
    load board image s = .next
      { State.send (buildStart (BitVec.ofNat 4 board)
            (BitVec.ofNat 16 (paddedLen s.params.padPolicy image.len)))
          { s with
            board := BitVec.ofNat 4 board
            img := image
            len := BitVec.ofNat 16 (paddedLen s.params.padPolicy image.len)
            crc := crcStart
            offset := 0
            cause := .none } with
        state := .starting } := by
  rw [load, if_neg (State.not_quiet_iff.not_right.1 hq), if_neg hb.not_gt, if_neg (not_not.2 hseg),
    if_neg (not_not.2 hbase), if_neg hfits.not_gt, if_neg (by simp [hwf])]

end Load

/-- The state after the LOAD event that creates a session: its registers are set and START is sent. -/
def State.openSession (s : State) (board : Nat) (image : Image) (rest : List Event) : State :=
  let start := buildStart (BitVec.ofNat 4 board)
    (BitVec.ofNat 16 (paddedLen s.params.padPolicy image.len))
  { s with
    inputs := rest
    board := BitVec.ofNat 4 board
    img := image
    len := BitVec.ofNat 16 (paddedLen s.params.padPolicy image.len)
    crc := 0
    offset := 0
    cause := .none
    state := .starting
    trace := s.trace ++ [.event (.load board image), .sent start]
    toTarget := s.toTarget ++ [start]
    toHost := [], unread := s.unread ++ s.toHost }

theorem step_load_of_admitted {s : State} {board : Nat} {image : Image} {rest : List Event}
    (hi : s.inputs = .load board image :: rest) (hq : s.quiet)
    (had : Admitted board image s.params.padPolicy) :
    step s = .next (s.openSession board image rest) := by
  obtain ⟨hboard, hseg, hbase, hfits, hwf⟩ := had
  rw [step_of_load hi, load_of_admitted (by exact hq) hboard hseg hbase (by exact hfits) hwf]
  simp [State.openSession, State.send, State.log, crcStart, Config.crcInit]

/-- Settles O20, with the failure information as the model leaves it. -/
theorem loadCreatesTheSession : Obligations.LoadCreatesTheSession := fun s _ _ _ hi hq had =>
  ⟨s.expected, s.actual, s.status, s.nrkind, s.presub, s.fstate, step_load_of_admitted hi hq had⟩

/-- Settles O21: the failure keeps the session registers and comes from Idle. -/
theorem loadFailsItsPreconditionsSilently : Obligations.LoadFailsItsPreconditionsSilently := by
  intro s board image rest hi hq hb himg
  obtain ⟨p, hload⟩ := load_of_precondition
    (s := State.log (.event (.load board image)) { s with inputs := rest }) hq hb himg
  refine ⟨p, s.board, s.len, s.crc, s.offset, s.img, ?_⟩
  rw [step_of_load hi, hload, ← hq.1]
  rfl

/-- Settles O22: an event's line in the trace changes none of LOAD's tests. -/
theorem loadOutsideItsDomainIsRefused : Obligations.LoadOutsideItsDomainIsRefused :=
  fun _ _ _ _ hi hq =>
    ⟨fun hb => (step_of_load hi).trans (load_of_board_gt hq hb),
      fun hb hseg hbase hlong => (step_of_load hi).trans (load_of_too_long hq hb hseg hbase hlong)⟩

/-! ## ABORT and RELEASE (R217, R218) -/

theorem abort_of_wait {s : State} (hw : s.state.isWait = true) :
    abort s = .next (s.failFrom .aborted) :=
  if_pos hw

theorem abort_of_not_wait {s : State} (hw : s.state.isWait = false) :
    abort s = .fault .abortOutsideWait :=
  if_neg (by simp [hw])

theorem release_of_terminal {s : State} (ht : s.state.isTerminal = true) :
    release s = .next { s.discardSession with channel := none } :=
  if_pos ht

theorem release_of_idle {s : State} (hs : s.state = .idle) :
    release s = .next { s with channel := none } := by
  rw [release, if_neg (by simp [hs, SeqState.isTerminal]), if_pos hs]

/-- A wait state is neither Idle nor terminal. -/
theorem SeqState.eq_of_isWait {st : SeqState} (hw : st.isWait = true) :
    st = .starting ∨ st = .transferring ∨ st = .finishing := by
  cases st <;> simp [SeqState.isWait] at hw ⊢

theorem release_of_wait {s : State} (hw : s.state.isWait = true) :
    release s = .fault .releaseInWait := by
  rcases SeqState.eq_of_isWait hw with hs | hs | hs <;>
    rw [release, if_neg (by simp [hs, SeqState.isTerminal]), if_neg (by simp [hs])]

/-- Settles O24: an event's line in the trace leaves the wait open, which ABORT then fails. -/
theorem abortFailsTheSession : Obligations.AbortFailsTheSession := fun _ _ hi hw =>
  (step_of_abort hi).trans (abort_of_wait hw)

/-- Settles O25: what RELEASE discards are session registers alone. -/
theorem releaseReturnsToIdle : Obligations.ReleaseReturnsToIdle := fun _ _ hi =>
  ⟨fun ht => ⟨_, (step_of_release hi).trans (release_of_terminal ht), rfl, rfl, rfl, rfl, rfl, rfl,
      rfl, rfl, rfl, rfl, rfl⟩,
    fun hs => (step_of_release hi).trans (release_of_idle hs)⟩

/-- With neither sequencer waiting, CBU has no step for an outcome (R211). -/
theorem hostReceive_of_nothing_waits {s : State} (hw : s.state.isWait = false) (hd : s.dsq = .idle)
    (o : RxOutcome) : hostReceive o s = .fault .rxOutsideWait := by
  simp only [hostReceive_of_not_wait hw, discoveryReceive, hd]

/-- Settles O23, event by event; a row that arrives at CBU is the outcome that its frame is. -/
theorem eventsOutsideTheTableHaveNoStep : Obligations.EventsOutsideTheTableHaveNoStep := by
  intro s board image o i rest
  refine ⟨fun hi hbusy => ?load, fun hi hw => ?abort, fun hi hwf hw hd => ?outcome,
    fun hp hw hd => ?row, fun hi hw => ?release⟩
  case load => exact (step_of_load hi).trans (load_of_not_quiet (State.not_quiet_iff.2 hbusy))
  case abort => exact (step_of_abort hi).trans (abort_of_not_wait hw)
  case outcome =>
    exact (step_of_rx hi hwf).trans (hostReceive_of_nothing_waits (by exact hw) (by exact hd) o)
  case row => exact (exec_host i hp).trans (hostReceive_of_nothing_waits hw hd _)
  case release => exact (step_of_release hi).trans (release_of_wait hw)

/-! ## Terminal states (R216) -/

/-- RELEASE is the operator's: the channel gives none. -/
theorem State.inputs_of_nextEvent_release {s s' : State} (h : s.nextEvent = some (.release, s')) :
    ∃ rest, s.inputs = .release :: rest := by
  unfold State.nextEvent at h
  split at h
  · rename_i e rest hi
    cases h
    exact ⟨rest, hi⟩
  split at h
  · cases h
  split at h <;> cases h

/-- An event line is no frame. -/
@[simp] theorem State.log_event_sent (e : Event) (s : State) : (s.log (.event e)).sent = s.sent := by
  simp [State.sent, TraceItem.sentFrame]

theorem SeqState.of_isTerminal {st : SeqState} (ht : st.isTerminal = true) :
    st ≠ .idle ∧ st.isWait = false := by
  cases st <;> simp [SeqState.isTerminal, SeqState.isWait] at ht ⊢

/-- In a terminal state an outcome is a discovery operation's: STATE stays, and where none runs the
outcome has no step. -/
theorem hostReceive_of_terminal {o : RxOutcome} {s t : State} (ht : s.state.isTerminal = true)
    (h : hostReceive o s = .next t) : t.state = s.state ∧ s.dsq ≠ .idle := by
  rw [hostReceive_of_not_wait (SeqState.of_isTerminal ht).2] at h
  obtain ⟨hrun, ⟨_, rfl⟩ | ⟨_, _, rfl⟩⟩ := discoveryReceive_next h <;> exact ⟨rfl, hrun⟩

/-- What an event can do in a terminal state: only RELEASE changes STATE, and only a discovery
operation sends. -/
theorem ActsTo.of_terminal {s t : State} {e : Event} (h : ActsTo s e t)
    (ht : s.state.isTerminal = true) :
    (t.state = s.state ∨ t.state = .idle ∧ e = .release) ∧ (s.dsq = .idle → t.sent = s.sent) := by
  obtain ⟨not_idle, not_wait⟩ := SeqState.of_isTerminal ht
  cases h with
  | load h => exact absurd (load_next h).1 not_idle
  | scan h => exact absurd (scan_next h).2.1 not_idle
  | ping h => exact absurd (pingBoard_next h).2.1 not_idle
  | abort h => exact absurd (abort_next h).1 (by simp [not_wait])
  | release h =>
    obtain ⟨-, rfl⟩ | ⟨hs, -⟩ := release_next h
    · exact ⟨.inr ⟨rfl, rfl⟩, fun _ => rfl⟩
    · exact absurd hs not_idle
  | openChannel => exact ⟨.inl rfl, fun _ => rfl⟩
  | timeout h =>
    obtain ⟨hstate, hrun⟩ := hostReceive_of_terminal ht h
    exact ⟨.inl hstate, fun hd => absurd hd hrun⟩
  | received h =>
    obtain ⟨hstate, hrun⟩ := hostReceive_of_terminal (s := s.atPort .host) ht h
    exact ⟨.inl hstate, fun hd => absurd hd hrun⟩
  | ignored => exact ⟨.inl rfl, fun _ => rfl⟩
  | delivered => exact ⟨.inl rfl, fun _ => rfl⟩

/-- Settles O52: the invariant's premise leaves no discovery operation to a terminal state. -/
theorem onlyReleaseLeavesATerminalState : Obligations.OnlyReleaseLeavesATerminalState := by
  intro s t h ht
  obtain ⟨-, rfl⟩ | ⟨e, s', hnext, hact⟩ := step_next h
  · exact ⟨.inl rfl, fun _ => rfl⟩
  have hrelease : e = .release → ∃ rest, s.inputs = .release :: rest := by
    rintro rfl
    exact State.inputs_of_nextEvent_release hnext
  obtain ⟨_, _, _, _, _, rfl⟩ := State.nextEvent_some hnext
  obtain ⟨hstate, hsent⟩ := hact.of_terminal ht
  refine ⟨hstate.imp_right (And.imp_right hrelease), fun hquiet => ?_⟩
  have hdsq : s.dsq = .idle := by
    by_contra hrun
    exact (SeqState.of_isTerminal ht).1 (hquiet hrun)
  exact (hsent hdsq).trans (State.log_event_sent _ _)

/-! ## The wait of USQ for a reply (R195 to R199) -/

/-- Settles O37, compared on natural numbers as R197 has it. -/
theorem lastChunkExpectsReadyFinal : Obligations.LastChunkExpectsReadyFinal :=
  fun _ _ => ⟨fun h => if_pos h, fun h => if_neg h⟩

/-- The subcode that a wait state awaits. Outside the waits none is awaited, and 0 stands for it. -/
def State.awaited (s : State) : Byte :=
  match s.state with
  | .starting => Config.subReady
  | .transferring => expectedSub s.offset s.len
  | .finishing => Config.subDone
  | .idle => 0
  | .succeeded => 0
  | .failed => 0

/-- What a wait state does with a report that it accepts. -/
def State.onReport (s : State) (data : List Byte) : Out :=
  match s.state with
  | .starting => s.advance
  | .transferring => State.advance { s with offset := s.offset + 8 }
  | .finishing =>
    if reportStatus data = Config.statusSuccess then
      .next { s with status := reportStatus data, state := .succeeded }
    else .next (State.failFrom .targetFailure { s with status := reportStatus data })
  | .idle => .fault .rxOutsideWait
  | .succeeded => .fault .rxOutsideWait
  | .failed => .fault .rxOutsideWait

theorem State.awaited_of_starting {s : State} (hs : s.state = .starting) :
    s.awaited = Config.subReady := by
  simp only [State.awaited, hs]

theorem State.awaited_of_transferring {s : State} (hs : s.state = .transferring) :
    s.awaited = expectedSub s.offset s.len := by
  simp only [State.awaited, hs]

theorem State.awaited_of_finishing {s : State} (hs : s.state = .finishing) :
    s.awaited = Config.subDone := by
  simp only [State.awaited, hs]

theorem State.onReport_of_starting {s : State} (hs : s.state = .starting) (data : List Byte) :
    s.onReport data = s.advance := by
  simp only [State.onReport, hs]

theorem State.onReport_of_transferring {s : State} (hs : s.state = .transferring)
    (data : List Byte) : s.onReport data = State.advance { s with offset := s.offset + 8 } := by
  simp only [State.onReport, hs]

theorem State.onReport_of_finishing {s : State} (hs : s.state = .finishing) (data : List Byte) :
    s.onReport data =
      if reportStatus data = 1 then
        .next { s with status := reportStatus data, state := .succeeded }
      else
        .next { s with
          status := reportStatus data, state := .failed, cause := .targetFailure
          fstate := s.state } := by
  simp only [State.onReport, hs]
  rfl

/-- In each wait RX(o) is one CHECK. -/
theorem hostReceive_of_wait {s : State} (hw : s.state.isWait = true) (o : RxOutcome) :
    hostReceive o s = s.check o s.awaited s.onReport := by
  rw [hostReceive, if_pos hw]
  rcases SeqState.eq_of_isWait hw with hs | hs | hs
  · rw [State.awaited_of_starting hs, funext (State.onReport_of_starting hs)]
    simp only [uploadReceive, hs, rxStarting]
  · rw [State.awaited_of_transferring hs, funext (State.onReport_of_transferring hs)]
    simp only [uploadReceive, hs, rxTransferring]
  · rw [State.awaited_of_finishing hs, funext (State.onReport_of_finishing hs)]
    simp only [uploadReceive, hs, rxFinishing]
    rfl

theorem State.check_of_accepted {o : RxOutcome} {exp : Byte} {data : List Byte}
    (h : checkReport o exp = .accepted data) (s : State) (rest : List Byte → Out) :
    s.check o exp rest = rest data := by
  simp only [State.check, h]

theorem State.check_of_failure {o : RxOutcome} {exp : Byte}
    (h : (checkReport o exp).isFailure = true) (s : State) (rest : List Byte → Out) :
    s.check o exp rest = .next (s.rejectReport (checkReport o exp) exp) := by
  unfold State.check
  cases hv : checkReport o exp with
  | accepted data => simp [hv, Verdict.isFailure] at h
  | noReport kind => rfl
  | malformed => rfl
  | mismatch actual => rfl

section Wait

variable {s : State} {o : RxOutcome} (hw : s.state.isWait = true)

include hw

theorem hostReceive_of_accepted {data : List Byte}
    (h : checkReport o s.awaited = .accepted data) : hostReceive o s = s.onReport data :=
  (hostReceive_of_wait hw o).trans (State.check_of_accepted h s _)

theorem hostReceive_of_rejected (h : (checkReport o s.awaited).isFailure = true) :
    hostReceive o s = .next (s.rejectReport (checkReport o s.awaited) s.awaited) :=
  (hostReceive_of_wait hw o).trans (State.check_of_failure h s _)

end Wait

/-! ## Waits that fail: a missing report, and another subcode (R199) -/

/-- The next state of a wait that ends with nothing. -/
theorem step_of_timeout {s : State} {rest : List Event} (hi : s.inputs = .rx .none :: rest)
    (hw : s.state.isWait = true) :
    step s = .next
      { s with
        inputs := rest, state := .failed, cause := .noReport, fstate := s.state, nrkind := 0
        trace := s.trace ++ [.event (.rx .none)] } :=
  (step_of_rx hi rfl).trans (hostReceive_of_rejected (by exact hw) rfl)

/-- Settles O33; the diagnostic of a missing frame is 0. -/
theorem timeoutFailsTheSession : Obligations.TimeoutFailsTheSession := fun _ _ hi hw =>
  ⟨0, step_of_timeout hi hw⟩

theorem checkReport_mismatch {f : Frame} {exp : Byte} (hcode : decodeCode f.id = Config.codeReport)
    (hlen : f.data.length = 8) (hsub : reportSubcode f.data ≠ exp) :
    checkReport (.frame f) exp = .mismatch (reportSubcode f.data) := by
  simp [checkReport, rfd_report hcode, hlen, hsub]

theorem hostReceive_of_mismatch {s : State} {f : Frame} (hw : s.state.isWait = true)
    (hcode : decodeCode f.id = Config.codeReport) (hlen : f.data.length = 8)
    (hsub : reportSubcode f.data ≠ s.awaited) :
    hostReceive (.frame f) s = .next
      { s with
        state := .failed, cause := .mismatch, fstate := s.state
        expected := s.awaited, actual := reportSubcode f.data } := by
  have hv := checkReport_mismatch hcode hlen hsub
  rw [hostReceive_of_rejected hw (by rw [hv]; rfl), hv]
  rfl

/-- The subcode that R197 and R199 expect in each wait is the one the model awaits there. -/
theorem State.eq_awaited {s : State} {exp : Byte}
    (h : s.state = .starting ∧ exp = 1 ∨
      s.state = .transferring ∧ exp = (if s.offset.toNat + 8 = s.len.toNat then 2 else 1) ∨
      s.state = .finishing ∧ exp = 3) : s.state.isWait = true ∧ exp = s.awaited := by
  rcases h with ⟨hs, rfl⟩ | ⟨hs, rfl⟩ | ⟨hs, rfl⟩ <;> simp only [State.awaited, hs] <;>
    exact ⟨rfl, rfl⟩

/-- Settles O31: a row, and any frame of eight bytes with the code REPORT, is a report whose subcode
CHECK compares with the awaited one. -/
theorem unexpectedSubcodeIsAMismatch : Obligations.UnexpectedSubcodeIsAMismatch := by
  intro s exp hexp
  obtain ⟨hw, rfl⟩ := State.eq_awaited hexp
  refine ⟨fun i board body sub hp hrow hsub => ?row,
    fun id d0 d1 d2 d3 sub d5 d6 d7 rest hi hcode hsub => ?step⟩
  case row =>
    have hframe : encode i = buildReport board (body.payload sub) := by
      rcases hrow with ⟨rfl, rfl⟩ | ⟨rfl, rfl⟩ | ⟨rfl, rfl⟩ | ⟨rfl, rfl⟩ <;> rfl
    rw [exec_host i hp, hframe]
    exact hostReceive_of_mismatch hw (decodeCode_encodeId board _) rfl hsub
  case step =>
    rw [step_of_rx hi rfl]
    exact hostReceive_of_mismatch (by exact hw) (decodeCode_eq_report_iff.2 hcode) rfl hsub

/-! ## Waits that go on: ADVANCE (R195, R196) and the end of the session (R198) -/

/-- At the end of the image ADVANCE sends STOP. -/
theorem State.advance_of_end {s : State} (h : s.offset = s.len) :
    s.advance = .next
      { s with
        state := .finishing
        trace := s.trace ++ [.sent (buildStop s.board s.crc)]
        toTarget := s.toTarget ++ [buildStop s.board s.crc]
        toHost := [], unread := s.unread ++ s.toHost } :=
  if_pos h

/-- Before the end ADVANCE folds the chunk at OFFSET and sends it. -/
theorem State.advance_of_chunk {s : State} (h : s.offset.toNat + 8 ≤ s.len.toNat) :
    s.advance = .next
      { s with
        state := .transferring
        crc := crcOver (s.img.paddedBytes s.offset.toNat 8) s.crc
        trace := s.trace ++ [.sent (buildData s.board (s.img.paddedBytes s.offset.toNat 8))]
        toTarget := s.toTarget ++ [buildData s.board (s.img.paddedBytes s.offset.toNat 8)]
        toHost := [], unread := s.unread ++ s.toHost } := by
  have hne : s.offset ≠ s.len := by
    intro heq
    rw [heq] at h
    omega
  have hread : memRead s.img s.len.toNat s.offset.toNat 8 =
      some (s.img.paddedBytes s.offset.toNat 8) := memRead_eq_some.2 ⟨h, rfl⟩
  rw [State.advance, if_neg hne, State.sendChunk, hread]
  rfl

/-- A report row carries its own subcode, so the wait that awaits it accepts it. -/
theorem exec_report_of_awaited {i : Instr} {board : Board} {body : ReportBody} {s : State}
    (hp : s.port = .host) (hw : s.state.isWait = true)
    (hi : encode i = buildReport board (body.payload s.awaited)) :
    exec i s = s.onReport (body.payload s.awaited) := by
  rw [exec_host i hp, hi]
  exact hostReceive_of_accepted hw
    (checkReport_accepted.2 ⟨_, rfl, decodeCode_encodeId board _, rfl, le_rfl, rfl⟩)

theorem exec_ready_starting {board : Board} {body : ReportBody} {s : State} (hp : s.port = .host)
    (hs : s.state = .starting) : exec (.reportReady board body) s = s.advance := by
  have hexp := State.awaited_of_starting hs
  rw [exec_report_of_awaited hp (by rw [hs]; rfl) (by rw [hexp]; rfl), State.onReport_of_starting hs]

/-- Settles O26: with a whole chunk left, ADVANCE is before the end. -/
theorem readyInStartingSendsTheFirstChunk : Obligations.ReadyInStartingSendsTheFirstChunk :=
  fun _ _ _ hp hs hle => (exec_ready_starting hp hs).trans (State.advance_of_chunk hle)

/-- Settles O27: with OFFSET at LEN, ADVANCE is at the end. -/
theorem readyForAnEmptyImageSendsStop : Obligations.ReadyForAnEmptyImageSendsStop :=
  fun _ _ _ hp hs hend => (exec_ready_starting hp hs).trans (State.advance_of_end hend)

/-- Settles O28: the chunk last sent is not the last, so READY is awaited, and OFFSET does not wrap. -/
theorem readyInTransferringSendsTheNextChunk : Obligations.ReadyInTransferringSendsTheNextChunk := by
  intro board body s hp hs hle
  have hexp : s.awaited = Config.subReady :=
    (State.awaited_of_transferring hs).trans (if_neg (by omega))
  have hnext : (s.offset + 8).toNat = s.offset.toNat + 8 := by bv_omega
  rw [exec_report_of_awaited hp (by rw [hs]; rfl) (by rw [hexp]; rfl),
    State.onReport_of_transferring hs]
  have hadv := State.advance_of_chunk (s := { s with offset := s.offset + 8 })
    (show (s.offset + 8).toNat + 8 ≤ s.len.toNat by omega)
  simp only [hnext] at hadv
  rw [← hs] at hadv
  exact hadv

/-- Settles O29: the chunk last sent reaches LEN, so READY_FINAL is awaited and ADVANCE is at the
end. -/
theorem readyFinalToTheLastChunkSendsStop : Obligations.ReadyFinalToTheLastChunkSendsStop := by
  intro board body s hp hs hlast
  have hexp : s.awaited = Config.subReadyFinal :=
    (State.awaited_of_transferring hs).trans (if_pos hlast)
  have hend : s.offset + 8 = s.len := by bv_omega
  rw [exec_report_of_awaited hp (by rw [hs]; rfl) (by rw [hexp]; rfl),
    State.onReport_of_transferring hs, hend]
  exact State.advance_of_end rfl

/-- Settles O30: the status byte of the report decides. -/
theorem doneInFinishingEndsTheSession : Obligations.DoneInFinishingEndsTheSession := by
  intro board body s hp hs
  have hexp := State.awaited_of_finishing hs
  have hstatus : reportStatus (body.payload s.awaited) = body.status := rfl
  rw [exec_report_of_awaited hp (by rw [hs]; rfl) (by rw [hexp]; rfl),
    State.onReport_of_finishing hs, hstatus, hs]
  exact ⟨fun hone => by rw [if_pos hone, hone], fun hother => if_neg hother⟩

/-! ## A session at each of its waits (R220, 20_memory R65) -/

theorem State.sent_of_trace {s t : State} {lines : List TraceItem}
    (h : t.trace = s.trace ++ lines) :
    t.sent = s.sent ++ lines.filterMap TraceItem.sentFrame := by
  rw [State.sent, h, List.filterMap_append]
  rfl

/-- Where STATE stands while the reply to the `k`-th command of a session over `n` chunks is awaited:
START is the 0th, STOP the `n+1`-st. -/
def waitState (n k : Nat) : SeqState :=
  if k = 0 then .starting else if k = n + 1 then .finishing else .transferring

theorem waitState_of_data {n k : Nat} (h0 : k ≠ 0) (hk : k ≤ n) : waitState n k = .transferring := by
  rw [waitState, if_neg h0, if_neg (by omega)]

theorem waitState_of_stop (n : Nat) : waitState n (n + 1) = .finishing := by
  rw [waitState, if_neg (by omega), if_pos rfl]

theorem waitState_isWait (n k : Nat) : (waitState n k).isWait = true := by
  unfold waitState
  split_ifs <;> rfl

/-- A session of `image` in `n` chunks has sent its commands up to the `k`-th; `before` are the frames
that CBU had sent when it began. The chunks sent are in CRC. -/
structure State.InSession (s : State) (board : Board) (image : Image) (n : Nat)
    (before : List Frame) (k : Nat) : Prop where
  board_eq : s.board = board
  img_eq : s.img = image
  len_eq : s.len.toNat = 8 * n
  cause_eq : s.cause = .none
  crc_eq : s.crc = crcOver (image.paddedBytes 0 (8 * min k n)) 0
  sent_eq : s.sent = before ++ (sessionFrames board image n).take (k + 1)

/-- Such a session awaits the reply to its `k`-th command; OFFSET is that of the chunk last sent. -/
structure State.AtWait (s : State) (board : Board) (image : Image) (n : Nat)
    (before : List Frame) (k : Nat) : Prop extends s.InSession board image n before k where
  state_eq : s.state = waitState n k
  offset_eq : s.offset.toNat = 8 * (k - 1)

theorem sessionFrames_length (board : Board) (image : Image) (n : Nat) :
    (sessionFrames board image n).length = n + 2 := by
  simp [sessionFrames, Image.chunks]

theorem sessionFrames_take_data {n k : Nat} (hk : k < n) (board : Board) (image : Image) :
    (sessionFrames board image n).take (k + 2) =
      (sessionFrames board image n).take (k + 1) ++
        [buildData board (image.paddedBytes (8 * k) 8)] := by
  rw [List.take_add_one]
  simp [sessionFrames, Image.chunks, List.getElem?_append, hk]

theorem sessionFrames_take_stop (n : Nat) (board : Board) (image : Image) :
    (sessionFrames board image n).take (n + 2) =
      (sessionFrames board image n).take (n + 1) ++
        [buildStop board (crcOver (image.paddedBytes 0 (8 * n)) 0)] := by
  rw [List.take_add_one]
  simp [sessionFrames, Image.chunks]

/-- Folding the next chunk into the fold of those before it. -/
theorem crcOver_next_chunk (image : Image) (k : Nat) :
    crcOver (image.paddedBytes (8 * k) 8) (crcOver (image.paddedBytes 0 (8 * k)) 0) =
      crcOver (image.paddedBytes 0 (8 * (k + 1))) 0 := by
  rw [Nat.mul_succ, Image.paddedBytes_append, crcOver_append, Nat.zero_add]

theorem State.atWait_of_openSession {s : State} {board n : Nat} {image : Image} (rest : List Event)
    (hn : paddedLen s.params.padPolicy image.len = 8 * n) (hfits : 8 * n ≤ 65535) :
    (s.openSession board image rest).AtWait (BitVec.ofNat 4 board) image n s.sent 0 where
  board_eq := rfl
  img_eq := rfl
  len_eq := by
    show (BitVec.ofNat 16 (paddedLen s.params.padPolicy image.len)).toNat = 8 * n
    rw [hn, BitVec.toNat_ofNat]
    exact Nat.mod_eq_of_lt (by omega)
  cause_eq := rfl
  crc_eq := by
    rw [Nat.zero_min]
    rfl
  sent_eq := by
    rw [State.sent_of_trace (s := s) rfl, hn]
    rfl
  state_eq := rfl
  offset_eq := rfl

section Session

variable {board : Board} {image : Image} {n k : Nat} {before : List Frame} {s : State}

/-- ADVANCE with OFFSET past the `k`-th chunk sends the next command. -/
theorem State.InSession.advance (h : s.InSession board image n before k) (hk : k ≤ n)
    (hoff : s.offset.toNat = 8 * k) :
    ∃ t, s.advance = .next t ∧ t.AtWait board image n before (k + 1) ∧ t.inputs = s.inputs := by
  obtain ⟨hboard, himg, hlen, hcause, hcrc, hsent⟩ := h
  rw [Nat.min_eq_left hk] at hcrc
  obtain rfl | hlt := hk.eq_or_lt
  case inl =>
    have hend : s.offset = s.len := BitVec.eq_of_toNat_eq (hoff.trans hlen.symm)
    refine ⟨_, State.advance_of_end hend, ⟨⟨hboard, himg, hlen, hcause, ?crc, ?sent⟩, ?state, hoff⟩,
      rfl⟩
    case crc => rwa [Nat.min_eq_right k.le_succ]
    case sent =>
      rw [State.sent_of_trace (s := s) rfl, hsent, sessionFrames_take_stop, hboard, hcrc,
        List.append_assoc]
      rfl
    case state => exact (waitState_of_stop k).symm
  case inr =>
    refine ⟨_, State.advance_of_chunk (by omega), ⟨⟨hboard, himg, hlen, hcause, ?crc, ?sent⟩, ?state,
      hoff⟩, rfl⟩
    case crc =>
      rw [Nat.min_eq_left (show k + 1 ≤ n from hlt), ← crcOver_next_chunk, ← hcrc, ← himg, ← hoff]
    case sent =>
      rw [State.sent_of_trace (s := s) rfl, hsent, sessionFrames_take_data hlt, hboard, himg, hoff,
        List.append_assoc]
      rfl
    case state => exact (waitState_of_data k.succ_ne_zero hlt).symm

namespace State.AtWait

theorem isWait (h : s.AtWait board image n before k) : s.state.isWait = true := by
  rw [h.state_eq, waitState_isWait]

/-- The wait awaits the subcode with which R220's target answers it. -/
theorem awaited (h : s.AtWait board image n before k) (hk : k ≤ n + 1) :
    s.awaited = replySubcode n k := by
  have hstate := h.state_eq
  obtain rfl | hk := hk.eq_or_lt
  · rw [waitState_of_stop] at hstate
    rw [State.awaited_of_finishing hstate, replySubcode, if_pos rfl]
  rw [replySubcode, if_neg (by omega)]
  obtain rfl | h0 := eq_or_ne k 0
  · rw [State.awaited_of_starting hstate, if_neg (by omega)]
  · rw [waitState_of_data h0 (by omega)] at hstate
    have hlast : s.offset.toNat + 8 = s.len.toNat ↔ k = n ∧ k ≠ 0 := by
      rw [h.offset_eq, h.len_eq]
      omega
    rw [State.awaited_of_transferring hstate, expectedSub, if_congr hlast rfl rfl]

/-- The event of a reply is no frame that CBU sends. -/
theorem takeRx (h : s.AtWait board image n before k) (o : RxOutcome) (rest : List Event) :
    (s.takeRx o rest).AtWait board image n before k where
  board_eq := h.board_eq
  img_eq := h.img_eq
  len_eq := h.len_eq
  cause_eq := h.cause_eq
  crc_eq := h.crc_eq
  sent_eq := by
    rw [State.sent_of_trace (s := s) rfl, ← h.sent_eq]
    exact List.append_nil _
  state_eq := h.state_eq
  offset_eq := h.offset_eq

/-- An accepted report to START or to a chunk makes the session send its next command. -/
theorem onReport (h : s.AtWait board image n before k) (hk : k ≤ n) (data : List Byte) :
    ∃ t, s.onReport data = .next t ∧ t.AtWait board image n before (k + 1) ∧
      t.inputs = s.inputs := by
  have hoff := h.offset_eq
  obtain rfl | h0 := eq_or_ne k 0
  · rw [State.onReport_of_starting h.state_eq]
    exact h.toInSession.advance hk hoff
  · have hlen := h.len_eq
    have hnext : (s.offset + 8).toNat = 8 * k := by bv_omega
    have hmoved : State.InSession { s with offset := s.offset + 8 } board image n before k :=
      ⟨h.board_eq, h.img_eq, h.len_eq, h.cause_eq, h.crc_eq, h.sent_eq⟩
    rw [State.onReport_of_transferring (h.state_eq.trans (waitState_of_data h0 hk))]
    exact hmoved.advance hk hnext

end State.AtWait

/-- What R220 says of a reply, taken apart. -/
theorem frame_of_isCompliant {o : RxOutcome} (h : isCompliant n k o = true) :
    ∃ f, o = .frame f ∧ decodeCode f.id = Config.codeReport ∧ f.data.length = 8 ∧
      reportSubcode f.data = replySubcode n k ∧ (k = n + 1 → reportStatus f.data = 1) := by
  cases o with
  | none => cases h
  | frame f =>
    simp only [isCompliant, Bool.and_eq_true, Bool.or_eq_true, decide_eq_true_eq] at h
    obtain ⟨⟨⟨hcode, hlen⟩, hsub⟩, hstatus⟩ := h
    exact ⟨f, rfl, hcode, hlen, hsub, fun hk => hstatus.resolve_left (not_not.2 hk)⟩

/-- A compliant reply is accepted in its wait. -/
theorem State.AtWait.step_of_compliant (h : s.AtWait board image n before k) (hk : k ≤ n + 1)
    {o : RxOutcome} {rest : List Event} (hi : s.inputs = .rx o :: rest)
    (ho : isCompliant n k o = true) :
    ∃ data, step s = (s.takeRx o rest).onReport data ∧ (k = n + 1 → reportStatus data = 1) := by
  obtain ⟨f, rfl, hcode, hlen, hsub, hstatus⟩ := frame_of_isCompliant ho
  have hwait := h.takeRx (.frame f) rest
  refine ⟨f.data, ?_, hstatus⟩
  rw [step_of_rx hi (decide_eq_true hlen.le)]
  exact hostReceive_of_accepted hwait.isWait
    (checkReport_accepted.2 ⟨f, rfl, hcode, rfl, hlen.ge, hsub.trans (hwait.awaited hk).symm⟩)

theorem compliantFrom_append (n k : Nat) (os os' : List RxOutcome) :
    compliantFrom n k (os ++ os') =
      (compliantFrom n k os && compliantFrom n (k + os.length) os') := by
  induction os generalizing k with
  | nil => rfl
  | cons o os ih =>
    simp only [List.cons_append, compliantFrom, ih, Bool.and_assoc, List.length_cons,
      Nat.add_right_comm k 1, Nat.add_assoc]

/-- Compliant replies to the commands before STOP bring the session to the wait after them; `m` more
steps go on from there. -/
theorem State.AtWait.run (m : Nat) {rest : List Event} (os : List RxOutcome) :
    ∀ {k : Nat} {s : State}, s.AtWait board image n before k → compliantFrom n k os = true →
      k + os.length ≤ n + 1 → s.inputs = os.map Event.rx ++ rest →
        ∃ t, Sys2Proof.core.run (os.length + m) s = Sys2Proof.core.run m t ∧
          t.AtWait board image n before (k + os.length) ∧ t.inputs = rest := by
  induction os with
  | nil =>
    intro k s h _ _ hi
    exact ⟨s, by rw [List.length_nil, Nat.zero_add], h, hi⟩
  | cons o os ih =>
    intro k s h hos hk hi
    rw [compliantFrom, Bool.and_eq_true] at hos
    rw [List.length_cons] at hk
    obtain ⟨data, hstep, -⟩ := h.step_of_compliant (by omega) hi hos.1
    obtain ⟨u, hu, hwait, hinputs⟩ := (h.takeRx o _).onReport (by omega) data
    obtain ⟨t, hrun, ht, hrest⟩ := ih hwait hos.2 (by omega) hinputs
    rw [List.length_cons, Nat.add_right_comm, run_of_step (hstep.trans hu),
      ← Nat.add_assoc, Nat.add_right_comm]
    exact ⟨t, hrun, ht, hrest⟩

end Session

/-- A LOAD that is admitted, and replies to the first `j` commands, bring the session to the wait for
the reply to its `j`-th command. -/
theorem run_of_load {s : State} {board n j m : Nat} {image : Image} {os : List RxOutcome}
    {rest : List Event} (hq : s.quiet) (had : Admitted board image s.params.padPolicy)
    (hn : paddedLen s.params.padPolicy image.len = 8 * n) (hos : compliantFrom n 0 os = true)
    (hlen : os.length = j) (hj : j ≤ n + 1)
    (hi : s.inputs = .load board image :: (os.map Event.rx ++ rest)) :
    ∃ t, Sys2Proof.core.run (j + m + 1) s = Sys2Proof.core.run m t ∧
      t.AtWait (BitVec.ofNat 4 board) image n s.sent j ∧ t.inputs = rest := by
  subst hlen
  have hfits : 8 * n ≤ 65535 := by
    obtain ⟨-, -, -, hfits, -⟩ := had
    omega
  have hwait := State.atWait_of_openSession (board := board) (os.map Event.rx ++ rest) hn hfits
  obtain ⟨t, hrun, ht, hrest⟩ := hwait.run m os hos (by omega) rfl
  rw [Nat.zero_add] at ht
  exact ⟨t, (run_of_step (step_load_of_admitted hi hq had) _).trans hrun, ht, hrest⟩

/-- Settles O57: the first `n + 1` replies bring the session to the wait after STOP, and DONE with the
status 1 ends it. -/
theorem compliantRepliesGiveSuccess : Obligations.CompliantRepliesGiveSuccess := by
  intro s board image n os rest hq had hn hos hi
  obtain ⟨hlen, hcomp⟩ := hos
  obtain ⟨init, last, rfl⟩ : ∃ init last, os = init ++ [last] :=
    ⟨_, _, (List.dropLast_append_getLast (List.ne_nil_of_length_pos (by omega))).symm⟩
  have hinit : init.length = n + 1 := by simpa using hlen
  rw [compliantFrom_append, Bool.and_eq_true, hinit, Nat.zero_add] at hcomp
  obtain ⟨hreplies, hdone⟩ := hcomp
  simp only [compliantFrom, Bool.and_true] at hdone
  obtain ⟨t, hrun, ht, hinputs⟩ := run_of_load (m := 1) (rest := .rx last :: rest) hq had hn hreplies
    hinit le_rfl (by simpa using hi)
  obtain ⟨data, hstep, hstatus⟩ := ht.step_of_compliant le_rfl hinputs hdone
  have hend := ht.takeRx last rest
  rw [State.onReport_of_finishing (hend.state_eq.trans (waitState_of_stop n)), if_pos (hstatus rfl),
    hstatus rfl] at hstep
  refine ⟨_, hrun.trans (run_of_step hstep 0), rfl, hend.cause_eq, rfl, hend.len_eq, ?offset, ?crc,
    rfl, ?sent⟩
  case offset => exact BitVec.eq_of_toNat_eq (hend.offset_eq.trans hend.len_eq.symm)
  case crc => exact hend.crc_eq.trans (by rw [Nat.min_eq_right n.le_succ])
  case sent =>
    refine Eq.trans hend.sent_eq ?_
    rw [List.take_of_length_le (sessionFrames_length _ _ _).le]

/-- Settles O58: the replies before the missing one bring the session to its wait, and that wait fails
and sends nothing. -/
theorem omittedReplyGivesFailure : Obligations.OmittedReplyGivesFailure := by
  intro s board image n j os rest hq had hn hos hj hi
  obtain ⟨hlen, hcomp⟩ := hos
  rw [← List.take_append_drop j os, compliantFrom_append, Bool.and_eq_true] at hcomp
  obtain ⟨t, hrun, ht, hinputs⟩ := run_of_load (m := 1) hq had hn hcomp.1
    (List.length_take_of_le (by omega)) (by omega) hi
  have hend := ht.takeRx .none rest
  exact ⟨_, hrun.trans (run_of_step (step_of_timeout hinputs ht.isWait) 0), rfl, rfl, ht.state_eq, rfl,
    hend.sent_eq⟩

end Sys2Proof.Machine
end

section
/-! The proofs of the family 44_report_reader: what RFD passes on, the waits of USQ that end with no
report or a short one, and that a wait sees nothing of a report but its bytes. For the last, CBU's
reaction to an outcome is shown not to read the trace, and to depend on the outcome only through
RFD. -/

namespace Sys2Proof.Machine

/-! ## What RFD tests (44_report_reader R231) -/

/-- Settles O36: the code is the identifier modulo 16, and RFD tests nothing more. -/
theorem filterTestsArrivalAndCode : Obligations.FilterTestsArrivalAndCode :=
  ⟨rfl, fun _ => ⟨fun h => rfd_report (decodeCode_eq_report_iff.2 h),
    fun h => rfd_other (mt decodeCode_eq_report_iff.1 h)⟩⟩

/-! ## Waits that fail: no report, and a short one (43_upload_sequencer R199, R236) -/

theorem checkReport_other {f : Frame} (h : decodeCode f.id ≠ Config.codeReport) (exp : Byte) :
    checkReport (.frame f) exp = .noReport 1 := by
  simp only [checkReport, rfd_other h]

theorem checkReport_short {f : Frame} (h : decodeCode f.id = Config.codeReport)
    (hshort : f.data.length < 8) (exp : Byte) : checkReport (.frame f) exp = .malformed := by
  simp only [checkReport, rfd_report h, hshort, if_true]

section Fail

variable {s : State} {f : Frame} (hw : s.state.isWait = true)

include hw

theorem hostReceive_of_other (hcode : decodeCode f.id ≠ Config.codeReport) :
    hostReceive (.frame f) s = .next
      { s with state := .failed, cause := .noReport, fstate := s.state, nrkind := 1 } := by
  have hv := checkReport_other hcode s.awaited
  rw [hostReceive_of_rejected hw (by rw [hv]; rfl), hv]
  rfl

theorem hostReceive_of_short (hcode : decodeCode f.id = Config.codeReport)
    (hshort : f.data.length < 8) :
    hostReceive (.frame f) s = .next
      { s with state := .failed, cause := .malformedReport, fstate := s.state } := by
  have hv := checkReport_short hcode hshort s.awaited
  rw [hostReceive_of_rejected hw (by rw [hv]; rfl), hv]
  rfl

end Fail

/-- Settles O32: a command row, and any CAN frame with another code than REPORT, is an outcome that
RFD rejects; the diagnostic is 1. -/
theorem commandFrameIsNoReportToAnUpload : Obligations.CommandFrameIsNoReportToAnUpload := by
  intro s hw
  refine ⟨fun i board v chunk hrow hp => ⟨1, ?row⟩,
    fun f rest hi hlen hcode => ⟨1, ?step⟩⟩
  case row =>
    rw [exec_host i hp]
    exact hostReceive_of_other hw (decodeCode_command_ne_report hrow)
  case step =>
    rw [step_of_rx hi (decide_eq_true hlen)]
    exact hostReceive_of_other (by exact hw) (mt decodeCode_eq_report_iff.1 hcode)

/-- Settles O34: RFD passes the report on, and CHECK tests its length before its subcode. -/
theorem shortReportFailsTheSession : Obligations.ShortReportFailsTheSession := by
  intro s f rest hi hw hcode hshort
  rw [step_of_rx hi (decide_eq_true hshort.le)]
  exact hostReceive_of_short (by exact hw) hcode hshort

/-! ## CBU's reaction to an outcome does not read the trace -/

/-- The state with the event lines left out of its trace, as `withoutEvents` shows it. -/
def State.hideEvents (s : State) : State :=
  { s with trace := s.trace.filter (fun t => !t.isEvent) }

theorem State.hideEvents_rejectReport (v : Verdict) (exp : Byte) (s : State) :
    s.hideEvents.rejectReport v exp = (s.rejectReport v exp).hideEvents := by
  cases v <;> rfl

theorem withoutEvents_hideEvents (s : State) :
    withoutEvents (.next s.hideEvents) = withoutEvents (.next s) := by
  simp [withoutEvents, State.hideEvents]

theorem State.advance_of_past_image {s : State} (hne : s.offset ≠ s.len)
    (h : ¬ s.offset.toNat + 8 ≤ s.len.toNat) : s.advance = .fault .readPastImage := by
  rw [State.advance, if_neg hne, State.sendChunk, memRead, if_neg h]

theorem withoutEvents_advance (s : State) :
    withoutEvents s.hideEvents.advance = withoutEvents s.advance := by
  by_cases hend : s.offset = s.len
  · rw [State.advance_of_end hend, State.advance_of_end (by exact hend)]
    simp [withoutEvents, State.hideEvents]
  by_cases hchunk : s.offset.toNat + 8 ≤ s.len.toNat
  · rw [State.advance_of_chunk hchunk, State.advance_of_chunk (by exact hchunk)]
    simp [withoutEvents, State.hideEvents]
  · rw [State.advance_of_past_image hend hchunk,
      State.advance_of_past_image (by exact hend) (by exact hchunk)]

theorem withoutEvents_onReport (s : State) (data : List Byte) :
    withoutEvents (s.hideEvents.onReport data) = withoutEvents (s.onReport data) := by
  cases hs : s.state with
  | starting =>
    rw [State.onReport_of_starting hs, State.onReport_of_starting (by exact hs)]
    exact withoutEvents_advance s
  | transferring =>
    rw [State.onReport_of_transferring hs, State.onReport_of_transferring (by exact hs)]
    exact withoutEvents_advance { s with offset := s.offset + 8 }
  | finishing =>
    rw [State.onReport_of_finishing hs, State.onReport_of_finishing (by exact hs)]
    split_ifs <;> simp [withoutEvents, State.hideEvents]
  | idle | succeeded | failed => simp only [State.onReport, hs, State.hideEvents]

theorem Verdict.eq_accepted {v : Verdict} (h : v.isFailure = false) :
    ∃ data, v = .accepted data := by
  cases v with
  | accepted data => exact ⟨data, rfl⟩
  | noReport _ | malformed | mismatch _ => cases h

theorem withoutEvents_hostReceive_of_wait {s : State} (hw : s.state.isWait = true) (o : RxOutcome) :
    withoutEvents (hostReceive o s.hideEvents) = withoutEvents (hostReceive o s) := by
  have hawaited : s.hideEvents.awaited = s.awaited := rfl
  rw [hostReceive_of_wait hw, hostReceive_of_wait (by exact hw), hawaited]
  cases hfail : (checkReport o s.awaited).isFailure with
  | true =>
    rw [State.check_of_failure hfail, State.check_of_failure hfail, State.hideEvents_rejectReport,
      withoutEvents_hideEvents]
  | false =>
    obtain ⟨data, hv⟩ := Verdict.eq_accepted hfail
    rw [State.check_of_accepted hv, State.check_of_accepted hv, withoutEvents_onReport]

theorem withoutEvents_hostReceive_of_pinging {s : State} {b : Board} (hw : s.state.isWait = false)
    (hd : s.dsq = .pinging b) (o : RxOutcome) :
    withoutEvents (hostReceive o s.hideEvents) = withoutEvents (hostReceive o s) := by
  rw [hostReceive_pinging hw hd, hostReceive_pinging (by exact hw) (by exact hd)]
  simp [withoutEvents, State.hideEvents]

/-! ## CBU's reaction to an outcome sees what RFD passes on (44_report_reader R232) -/

theorem checkReport_congr {o o' : RxOutcome} (h : rfd o = rfd o') (exp : Byte) :
    checkReport o exp = checkReport o' exp := by
  rw [checkReport, checkReport, h]

theorem pingResult_congr {o o' : RxOutcome} (h : rfd o = rfd o') :
    pingResult o = pingResult o' := by
  rw [pingResult, pingResult, h]

section Wait

variable {s : State} (hwait : s.state.isWait = true ∨ ∃ b, s.dsq = .pinging b)

include hwait

theorem State.pinging_of_not_wait (hw : s.state.isWait = false) : ∃ b, s.dsq = .pinging b :=
  hwait.resolve_left (by simp [hw])

theorem withoutEvents_hostReceive (o : RxOutcome) :
    withoutEvents (hostReceive o s.hideEvents) = withoutEvents (hostReceive o s) := by
  cases hw : s.state.isWait with
  | true => exact withoutEvents_hostReceive_of_wait hw o
  | false =>
    obtain ⟨b, hd⟩ := State.pinging_of_not_wait hwait hw
    exact withoutEvents_hostReceive_of_pinging hw hd o

/-- SCAN is left out: it compares the whole identifier (42_discovery R172). -/
theorem hostReceive_congr {o o' : RxOutcome} (h : rfd o = rfd o') :
    hostReceive o s = hostReceive o' s := by
  cases hw : s.state.isWait with
  | true =>
    rw [hostReceive_of_wait hw, hostReceive_of_wait hw, State.check, State.check,
      checkReport_congr h]
  | false =>
    obtain ⟨b, hd⟩ := State.pinging_of_not_wait hwait hw
    rw [hostReceive_pinging hw hd, hostReceive_pinging hw hd, pingResult_congr h]

end Wait

/-- What two frames leave behind when CBU meets them differs in their event lines only. -/
theorem State.hideEvents_takeRx (s : State) (f g : Frame) (rest : List Event) :
    (s.takeRx (.frame f) rest).hideEvents = (s.takeRx (.frame g) rest).hideEvents := by
  simp [State.hideEvents, State.takeRx, TraceItem.isEvent]

/-- A frame of more than eight bytes is no CAN frame (00_scope R12), in a wait or outside one. -/
theorem step_of_rx_not_wf {s : State} {f : Frame} {rest : List Event}
    (hi : s.inputs = .rx (.frame f) :: rest) (hwf : f.wf = false) :
    step s = .refused .notACanFrame := by
  refine step_of_fetch_acted ?_
  rw [fetch_of_inputs hi, act, fetchFrame, if_neg (by simp [hwf])]

/-- Settles O35: the two frames are the same to RFD, and their event lines, in which they differ,
are never read. A payload that is too long stops both alike. -/
theorem filterIsBlindToTheSender : Obligations.FilterIsBlindToTheSender := by
  intro s f g rest hf hg hdata hwait
  have hrfd : rfd (.frame f) = rfd (.frame g) := by rw [rfd_report hf, rfd_report hg, hdata]
  have hwf : g.wf = f.wf := by rw [Frame.wf, Frame.wf, hdata]
  cases hcan : f.wf with
  | false => rw [step_of_rx_not_wf rfl hcan, step_of_rx_not_wf rfl (hwf.trans hcan)]
  | true =>
    rw [step_of_rx (o := .frame f) rfl hcan, step_of_rx (o := .frame g) rfl (hwf.trans hcan)]
    calc withoutEvents (hostReceive (.frame f) (s.takeRx (.frame f) rest))
        = withoutEvents (hostReceive (.frame f) (s.takeRx (.frame f) rest).hideEvents) :=
          (withoutEvents_hostReceive (by exact hwait) _).symm
      _ = withoutEvents (hostReceive (.frame f) (s.takeRx (.frame g) rest).hideEvents) := by
          rw [State.hideEvents_takeRx s f g rest]
      _ = withoutEvents (hostReceive (.frame f) (s.takeRx (.frame g) rest)) :=
          withoutEvents_hostReceive (by exact hwait) _
      _ = withoutEvents (hostReceive (.frame g) (s.takeRx (.frame g) rest)) :=
          congrArg _ (hostReceive_congr (by exact hwait) hrfd)

end Sys2Proof.Machine
end

section
/-! The proofs of the family 45_frames: what the command parser makes of a frame whose identifier ENCODE
built, and from it that each builder's frame is parsed back. -/

namespace Sys2Proof

open Laws.FrameFits (baseOk_encodeId)

/-! ## Parsing what a builder built (R262) -/

/-- An identifier that ENCODE built is of this protocol, so the verdict is decided by the code and the
length of the payload. -/
theorem parseCommand_encodeId (b : Board) (c : Code) (data : List Byte) :
    parseCommand ⟨encodeId b c, data⟩ =
      if c = Config.codePing ∧ data.length = 0 then .ping b
      else if c = Config.codeStart ∧ data.length = 2 then
        .start b (join16 (data.getD 0 0) (data.getD 1 0))
      else if c = Config.codeData ∧ data.length = 8 then .data b data
      else if c = Config.codeStop ∧ data.length = 2 then
        .stop b (join16 (data.getD 0 0) (data.getD 1 0))
      else if c = Config.codeReport then .notACommand b
      else if c = Config.codePing ∨ c = Config.codeStart ∨ c = Config.codeData ∨ c = Config.codeStop
        then .malformed b c data.length
      else .undefined b c := by
  simp only [parseCommand, baseOk_encodeId, if_true, decodeBoard_encodeId, decodeCode_encodeId]

@[simp] theorem parseCommand_buildPing (b : Board) : parseCommand (buildPing b) = .ping b :=
  parseCommand_encodeId _ _ _

@[simp] theorem parseCommand_buildStart (b : Board) (len : Half) :
    parseCommand (buildStart b len) = .start b len :=
  calc parseCommand (buildStart b len)
      = .start b (join16 (lo8 len) (hi8 len)) := parseCommand_encodeId _ _ _
    _ = .start b len := by rw [join16_lo8_hi8]

theorem parseCommand_buildData (b : Board) {chunk : List Byte} (h : chunk.length = 8) :
    parseCommand (buildData b chunk) = .data b chunk := by
  rw [buildData, parseCommand_encodeId, h]
  rfl

@[simp] theorem parseCommand_buildStop (b : Board) (crc : Half) :
    parseCommand (buildStop b crc) = .stop b crc :=
  calc parseCommand (buildStop b crc)
      = .stop b (join16 (lo8 crc) (hi8 crc)) := parseCommand_encodeId _ _ _
    _ = .stop b crc := by rw [join16_lo8_hi8]

/-- Code 5 alone decides: a report of any length is no command. -/
@[simp] theorem parseCommand_buildReport (b : Board) (data : List Byte) :
    parseCommand (buildReport b data) = .notACommand b :=
  parseCommand_encodeId _ _ _

/-- Settles O8, builder by builder. -/
theorem parserInvertsBuilders : Obligations.ParserInvertsBuilders := fun b v _ data hchunk =>
  ⟨parseCommand_buildPing b, parseCommand_buildStart b v, parseCommand_buildData b hchunk,
    parseCommand_buildStop b v, parseCommand_buildReport b data⟩

end Sys2Proof
end

section
/-! The proofs of the family 46_reference_responder: each reaction's cases as equations, what a reaction
does to the bus, what a row and a delivered frame do at the targets, and that every step keeps the
responders' counts. -/

namespace Sys2Proof.Machine

/-! ## The reactions, case by case (46_reference_responder R283 to R286) -/

section Reactions

variable {r : Responder}

theorem Responder.onStart_of_chunks {len : Half} (h : len.toNat % 8 = 0) :
    r.onStart len =
      ({ r with
         rlen := len, rcount := 0, rcrc := 0, rstate := if len = 0 then .full else .receiving },
       some (r.report Config.subReady 0)) :=
  if_pos h

theorem Responder.onStart_of_ragged {len : Half} (h : len.toNat % 8 ≠ 0) :
    r.onStart len = (r, none) :=
  if_neg h

theorem Responder.onData_of_more {chunk : List Byte} (hs : r.rstate = .receiving)
    (hc : r.rcount + 8 ≠ r.rlen) :
    r.onData chunk =
      ({ r with rcrc := crcOver chunk r.rcrc, rcount := r.rcount + 8 },
       some (r.report Config.subReady 0)) := by
  simp only [Responder.onData, hs, if_neg hc]

theorem Responder.onData_of_last {chunk : List Byte} (hs : r.rstate = .receiving)
    (hc : r.rcount + 8 = r.rlen) :
    r.onData chunk =
      ({ r with rcrc := crcOver chunk r.rcrc, rcount := r.rcount + 8, rstate := .full },
       some (r.report Config.subReadyFinal 0)) := by
  simp only [Responder.onData, hs, if_pos hc]

theorem Responder.onData_of_not_receiving {chunk : List Byte} (hs : r.rstate ≠ .receiving) :
    r.onData chunk = (r, none) := by
  unfold Responder.onData
  cases h : r.rstate with
  | idle => rfl
  | full => rfl
  | receiving => exact absurd h hs

theorem Responder.finalStatus_eq (crc : Half) :
    r.finalStatus crc = if r.policy = .crcCheck ∧ crc ≠ r.rcrc then 0 else 1 := by
  cases hp : r.policy with
  | alwaysSuccess => simp [Responder.finalStatus, hp]
  | crcCheck => by_cases hc : crc = r.rcrc <;> simp [Responder.finalStatus, hp, hc]

theorem Responder.onStop_of_full {crc : Half} (hs : r.rstate = .full) :
    r.onStop crc =
      ({ r with rstate := .idle }, some (r.report Config.subDone (r.finalStatus crc))) := by
  simp only [Responder.onStop, hs]

theorem Responder.onStop_of_crcCheck {crc : Half} (hs : r.rstate ≠ .full)
    (hp : r.policy = .crcCheck) : r.onStop crc = (r, some (r.report Config.subDone 0)) := by
  unfold Responder.onStop
  cases h : r.rstate with
  | idle => simp only [hp]
  | receiving => simp only [hp]
  | full => exact absurd h hs

theorem Responder.onStop_of_alwaysSuccess {crc : Half} (hs : r.rstate ≠ .full)
    (hp : r.policy = .alwaysSuccess) : r.onStop crc = (r, none) := by
  unfold Responder.onStop
  cases h : r.rstate with
  | idle => simp only [hp]
  | receiving => simp only [hp]
  | full => exact absurd h hs

end Reactions

/-! ## The targets' reaction to a command (R282) -/

section React

variable {s : State} {board : Board} {react : Responder → Responder × Option Frame}

/-- Where the addressed responders are silent and keep their registers, and so where none is addressed,
nothing happens. -/
theorem State.targetsReact_of_silent (h : ∀ r ∈ s.targets, r.me = board → react r = (r, none)) :
    s.targetsReact board react = s := by
  have hkeep : s.targets.map (fun r => if r.me = board then (react r).1 else r) = s.targets := by
    refine (List.map_congr_left fun r hr => ?_).trans (List.map_id _)
    split
    · rw [h r hr ‹_›, id]
    · rfl
  have hsilent : s.targets.filterMap (fun r => if r.me = board then (react r).2 else none) = [] := by
    refine List.filterMap_eq_nil_iff.2 fun r hr => ?_
    split
    · rw [h r hr ‹_›]
    · rfl
  simp only [State.targetsReact, hkeep, hsilent, List.append_nil]

/-- Where each addressed responder answers, the answers come in the order of the responders. -/
theorem State.targetsReact_of_answers {next : Responder → Responder} {answer : Responder → Frame}
    (h : ∀ r, r.me = board → react r = (next r, some (answer r))) :
    s.targetsReact board react =
      { s with
        targets := s.targets.map (fun r => if r.me = board then next r else r)
        toHost := s.toHost ++ (s.targets.filter (fun r => decide (r.me = board))).map answer } := by
  have hnext : (fun r => if r.me = board then (react r).1 else r) =
      fun r => if r.me = board then next r else r := by
    funext r
    exact ite_congr rfl (fun hr => by rw [h r hr]) fun _ => rfl
  have hanswers (rs : List Responder) :
      rs.filterMap (fun r => if r.me = board then (react r).2 else none) =
        (rs.filter (fun r => decide (r.me = board))).map answer := by
    induction rs with
    | nil => rfl
    | cons r rs ih => by_cases hr : r.me = board <;> simp [hr, h, ih]
  simp only [State.targetsReact, hnext, hanswers]

/-- A lone responder that is addressed and answers. -/
theorem State.targetsReact_lone {r r' : Responder} {f : Frame} (ht : s.targets = [r])
    (hr : r.me = board) (h : react r = (r', some f)) :
    s.targetsReact board react = { s with targets := [r'], toHost := s.toHost ++ [f] } := by
  simp [State.targetsReact, ht, hr, h]

end React

theorem Responder.report_of_me {r : Responder} {board : Board} (hr : r.me = board)
    (sub status : Byte) : r.report sub status = buildReport board [0, 0, 0, 0, sub, status, 0, 0] := by
  rw [Responder.report, hr]

/-! ## A row at the targets -/

section Rows

variable {s : State} (hp : s.port = .target) (board : Board)

include hp

theorem exec_ping_target : exec (.ping board) s = .next (s.targetsReact board Responder.onPing) := by
  simp only [exec, execPing, hp]

theorem exec_start_target (len : Half) :
    exec (.start board len) s = .next (s.targetsReact board (Responder.onStart len)) := by
  simp only [exec, execStart, hp]

theorem exec_data_target (chunk : List Byte) :
    exec (.data board chunk) s = .next (s.targetsReact board (Responder.onData chunk)) := by
  simp only [exec, execData, hp]

theorem exec_stop_target (crc : Half) :
    exec (.stop board crc) s = .next (s.targetsReact board (Responder.onStop crc)) := by
  simp only [exec, execStop, hp]

theorem exec_report_target {body : ReportBody} {i : Instr}
    (hi : i = .reportPong board body ∨ i = .reportReady board body ∨
      i = .reportReadyFinal board body ∨ i = .reportDone board body) : exec i s = .next s := by
  obtain rfl | rfl | rfl | rfl := hi <;>
    simp only [exec, execReportPong, execReportReady, execReportReadyFinal, execReportDone, hp]

end Rows

/-- Settles O43: PING's reaction always answers and keeps the responder. -/
theorem pingIsAnsweredByItsBoard : Obligations.PingIsAnsweredByItsBoard := by
  intro board s hp
  rw [exec_ping_target hp, State.targetsReact_of_answers (next := id) fun r hr => by
    rw [Responder.onPing, hr, id]]
  simp

/-- Settles O44: START's reaction always answers, or, with a ragged length, never. -/
theorem startResetsTheTargetsProgress : Obligations.StartResetsTheTargetsProgress := by
  intro board len s hp
  rw [exec_start_target hp]
  refine ⟨fun hlen => ?chunks, fun hlen => ?ragged⟩
  case chunks =>
    rw [State.targetsReact_of_answers fun r hr => by
      rw [Responder.onStart_of_chunks hlen, Responder.report_of_me hr]]
    rfl
  case ragged =>
    rw [State.targetsReact_of_silent fun _ _ _ => Responder.onStart_of_ragged hlen]

/-- Settles O45, by the cases of DATA's reaction. -/
theorem dataIsFoldedAndCountedByTheTarget : Obligations.DataIsFoldedAndCountedByTheTarget := by
  intro chunk r s _ hp ht
  rw [exec_data_target hp]
  refine ⟨fun hs hc => ?more, fun hs hc => ?last, fun hs => ?silent⟩
  case more => rw [State.targetsReact_lone ht rfl (Responder.onData_of_more hs hc)]; rfl
  case last => rw [State.targetsReact_lone ht rfl (Responder.onData_of_last hs hc)]; rfl
  case silent => rw [State.targetsReact_of_silent (by simp [ht, Responder.onData_of_not_receiving hs])]

/-- Settles O46, by the cases of STOP's reaction. -/
theorem stopIsAnsweredWithTheStatus : Obligations.StopIsAnsweredWithTheStatus := by
  intro crc r s hp ht
  rw [exec_stop_target hp]
  refine ⟨fun hs => ?full, fun hs hpol => ?checked, fun hs hpol => ?silent⟩
  case full =>
    rw [State.targetsReact_lone ht rfl (Responder.onStop_of_full hs), Responder.finalStatus_eq]
    rfl
  case checked =>
    rw [State.targetsReact_lone ht rfl (Responder.onStop_of_crcCheck hs hpol), ← ht]
    rfl
  case silent =>
    rw [State.targetsReact_of_silent (by simp [ht, Responder.onStop_of_alwaysSuccess hs hpol])]

/-! ## Every reaction keeps the counts (R284 to R286) -/

theorem Responder.onStart_inv {len : Half} {r : Responder} (h : r.inv) : (r.onStart len).1.inv := by
  by_cases hlen : len.toNat % 8 = 0
  · rw [Responder.onStart_of_chunks hlen]
    by_cases h0 : len = 0
    · simp [Responder.inv, h0]
    · have hpos : 0 < len.toNat := Nat.pos_of_ne_zero fun h => h0 (BitVec.eq_of_toNat_eq h)
      have hne : ¬ len = 0#16 := h0
      simp [Responder.inv, hne, hlen, hpos]
  · rwa [Responder.onStart_of_ragged hlen]

/-- A chunk is missing while the responder receives, so counting one does not wrap. -/
theorem Responder.onData_inv {chunk : List Byte} {r : Responder} (h : r.inv) :
    (r.onData chunk).1.inv := by
  by_cases hs : r.rstate = .receiving
  · have hcounts := h
    simp only [Responder.inv, hs] at hcounts
    obtain ⟨hlen, hcount, hlt⟩ := hcounts
    by_cases hc : r.rcount + 8 = r.rlen
    · rw [Responder.onData_of_last hs hc]
      exact ⟨hlen, hc⟩
    · rw [Responder.onData_of_more hs hc]
      have hnext : (r.rcount + 8).toNat = r.rcount.toNat + 8 := by bv_omega
      have hne : (r.rcount + 8).toNat ≠ r.rlen.toNat := fun h => hc (BitVec.eq_of_toNat_eq h)
      simp only [Responder.inv, hs]
      omega
  · rwa [Responder.onData_of_not_receiving hs]

theorem Responder.onStop_inv {crc : Half} {r : Responder} (h : r.inv) : (r.onStop crc).1.inv := by
  by_cases hs : r.rstate = .full
  · rw [Responder.onStop_of_full hs]
    trivial
  · cases hp : r.policy with
    | alwaysSuccess => rwa [Responder.onStop_of_alwaysSuccess hs hp]
    | crcCheck => rwa [Responder.onStop_of_crcCheck hs hp]

theorem Responder.Reaction.inv {react : Responder → Responder × Option Frame}
    (hr : Responder.Reaction react) {r : Responder} (h : r.inv) : (react r).1.inv := by
  cases hr with
  | ping => exact h
  | start len => exact Responder.onStart_inv h
  | data chunk => exact Responder.onData_inv h
  | stop crc => exact Responder.onStop_inv h

/-- Only a frame that is delivered to the targets reaches a responder. -/
theorem ActsTo.targets_cases {s t : State} {e : Event} (h : ActsTo s e t) :
    t.targets = s.targets ∨ ∃ board react, Responder.Reaction react ∧
      t.targets = s.targets.map (fun r => if r.me = board then (react r).1 else r) := by
  cases h with
  | load h => obtain ⟨-, -, -, ⟨_, -, rfl⟩ | ⟨-, rfl⟩⟩ := load_next h <;> exact .inl rfl
  | scan h => obtain ⟨-, -, -, rfl⟩ := scan_next h; exact .inl rfl
  | ping h => obtain ⟨-, -, -, -, rfl⟩ := pingBoard_next h; exact .inl rfl
  | abort h => obtain ⟨-, rfl⟩ := abort_next h; exact .inl rfl
  | release h => obtain ⟨-, rfl⟩ | ⟨-, rfl⟩ := release_next h <;> exact .inl rfl
  | openChannel => exact .inl rfl
  | timeout h => exact .inl (hostReceive_targets h)
  | received h => exact .inl (hostReceive_targets (s := s.atPort .host) h)
  | ignored => exact .inl rfl
  | delivered hr => exact .inr ⟨_, _, hr, rfl⟩

/-- Settles O56: a step leaves each responder as it is or gives it one reaction. -/
theorem stepKeepsTheResponders : Obligations.StepKeepsTheResponders := by
  intro s t hs h
  obtain ⟨-, rfl⟩ | ⟨e, s', hnext, hact⟩ := step_next h
  · exact hs
  obtain ⟨_, _, _, _, _, rfl⟩ := State.nextEvent_some hnext
  obtain hsame | ⟨board, react, hreact, hmap⟩ := hact.targets_cases
  · rw [hsame]
    exact hs
  · rw [hmap]
    refine List.forall_mem_map.2 fun r hr => ?_
    split
    · exact hreact.inv (hs r hr)
    · exact hs r hr

/-! ## Delivery of a frame to the targets (R282, 45_frames R262) -/

section Builders

variable (board : Board) (s : State)

theorem targetReceive_buildPing :
    targetReceive (buildPing board) s = .next (s.targetsReact board Responder.onPing) := by
  simp only [targetReceive, parseCommand_buildPing]

theorem targetReceive_buildStart (len : Half) :
    targetReceive (buildStart board len) s =
      .next (s.targetsReact board (Responder.onStart len)) := by
  simp only [targetReceive, parseCommand_buildStart]

theorem targetReceive_buildData {chunk : List Byte} (h : chunk.length = 8) :
    targetReceive (buildData board chunk) s =
      .next (s.targetsReact board (Responder.onData chunk)) := by
  simp only [targetReceive, parseCommand_buildData _ h]

theorem targetReceive_buildStop (crc : Half) :
    targetReceive (buildStop board crc) s =
      .next (s.targetsReact board (Responder.onStop crc)) := by
  simp only [targetReceive, parseCommand_buildStop]

theorem targetReceive_buildReport (data : List Byte) :
    targetReceive (buildReport board data) s = .next s := by
  simp only [targetReceive, parseCommand_buildReport]

end Builders

/-- At the targets a row does what the parser's verdict on its frame does. -/
theorem exec_of_decode {f : Frame} {i : Instr} {s : State} (hd : decode f = .instr i)
    (hp : s.port = .target) : exec i s = targetReceive f s := by
  obtain ⟨rfl, hwf, -⟩ := decodedFrameIsItsRowsFrame f i hd
  have hreport {b : Board} {body : ReportBody} {sub : Byte} (h : exec i s = .next s) :
      exec i s = targetReceive (buildReport b (body.payload sub)) s :=
    h.trans (targetReceive_buildReport _ _ _).symm
  cases i with
  | ping b => exact (exec_ping_target hp b).trans (targetReceive_buildPing b s).symm
  | start b len => exact (exec_start_target hp b len).trans (targetReceive_buildStart b s len).symm
  | data b chunk =>
    have hlen : chunk.length = 8 := of_decide_eq_true hwf
    exact (exec_data_target hp b chunk).trans (targetReceive_buildData b s hlen).symm
  | stop b crc => exact (exec_stop_target hp b crc).trans (targetReceive_buildStop b s crc).symm
  | reportPong b _ => exact hreport (exec_report_target hp b (.inl rfl))
  | reportReady b _ => exact hreport (exec_report_target hp b (.inr (.inl rfl)))
  | reportReadyFinal b _ => exact hreport (exec_report_target hp b (.inr (.inr (.inl rfl))))
  | reportDone b _ => exact hreport (exec_report_target hp b (.inr (.inr (.inr rfl))))

/-- The state in which the targets meet a frame: its delivery stands in the trace. -/
def State.takeDelivery (s : State) (f : Frame) (rest : List Event) : State :=
  { s with inputs := rest, port := .target, trace := s.trace ++ [.event (.deliver f)] }

/-- The targets treat a row of the table and a frame that is none alike. -/
theorem step_of_deliver {s : State} {f : Frame} {rest : List Event}
    (hi : s.inputs = .deliver f :: rest) (hwf : f.wf = true) :
    step s = targetReceive f (s.takeDelivery f rest) := by
  cases hd : decode f with
  | instr i =>
    rw [step_of_delivered hd (State.nextEvent_of_inputs hi), exec_of_decode hd rfl]
    rfl
  | rejected why =>
    refine step_of_fetch_acted ?_
    rw [fetch_of_inputs hi, act, fetchFrame, if_pos hwf, hd]
    rfl

theorem decodeCode_eq_iff {id : CanId} {c : Code} : decodeCode id = c ↔ id.toNat % 16 = c.toNat := by
  rw [← BitVec.toNat_inj, decodeCode_toNat]

/-- A frame that the parser takes for a command is of this protocol, with a command's code and the
length of that code's row. -/
theorem targetReceive_of_not_command {f : Frame} {code : Nat} (hcode : code = f.id.toNat % 16)
    (h : f.id.toNat / 256 ≠ 0x1B0071 ∨ code = 1 ∨ code ≥ 5 ∨ code = 0 ∧ f.data.length ≠ 0 ∨
      (code = 2 ∨ code = 4) ∧ f.data.length ≠ 2 ∨ code = 3 ∧ f.data.length ≠ 8) (s : State) :
    targetReceive f s = .next s := by
  by_cases hbase : baseOk f.id = true
  · have hown := baseOk_iff.1 hbase
    have htest {c : Code} {k n : Nat} (hc : c.toNat = k) (hne : ¬ (code = k ∧ f.data.length = n)) :
        ¬ (decodeCode f.id = c ∧ f.dlc = n) := by
      rwa [decodeCode_eq_iff, hc, ← hcode]
    have hping : ¬ (decodeCode f.id = Config.codePing ∧ f.dlc = 0) := htest (k := 0) rfl (by omega)
    have hstart : ¬ (decodeCode f.id = Config.codeStart ∧ f.dlc = 2) := htest (k := 2) rfl (by omega)
    have hdata : ¬ (decodeCode f.id = Config.codeData ∧ f.dlc = 8) := htest (k := 3) rfl (by omega)
    have hstop : ¬ (decodeCode f.id = Config.codeStop ∧ f.dlc = 2) := htest (k := 4) rfl (by omega)
    simp only [targetReceive, parseCommand, hbase, if_true, if_neg hping, if_neg hstart,
      if_neg hdata, if_neg hstop]
    split_ifs <;> rfl
  · simp only [targetReceive, parseCommand, if_neg hbase]

/-- Settles O47: reports and commands for other boards as rows, and the other frames by the parser's
tests. -/
theorem targetsIgnoreWhatIsNotForThem : Obligations.TargetsIgnoreWhatIsNotForThem := by
  refine fun s => ⟨fun board v chunk body i hp => ⟨exec_report_target hp board, fun habsent hi => ?_⟩,
    fun f code rest hi hlen hcode h => ?_⟩
  · have hsilent (react) : s.targetsReact board react = s :=
      State.targetsReact_of_silent fun r hr hme => absurd hme (habsent r hr)
    obtain rfl | rfl | rfl | rfl := hi
    · rw [exec_ping_target hp, hsilent]
    · rw [exec_start_target hp, hsilent]
    · rw [exec_data_target hp, hsilent]
    · rw [exec_stop_target hp, hsilent]
  · rw [step_of_deliver hi (decide_eq_true hlen), targetReceive_of_not_command hcode h]
    rfl

end Sys2Proof.Machine
end

section
/-! The closed system of 46_reference_responder R287. CBU's side of each exchange is a wait of
43_upload_sequencer R220; the target's side is how much of the image it holds. A command and its reply
take two steps, a delivery and a receive outcome. -/

namespace Sys2Proof.Machine

/-! ## A target's side of a session (R284 to R286) -/

/-- RSTATE once `j` of `n` chunks are counted; `j = n + 1` is after STOP. -/
def targetState (n j : Nat) : RState :=
  if j < n then .receiving else if j = n then .full else .idle

/-- The responder has acted on START and `j` chunks of the image, or, for `j = n + 1`, on STOP too. -/
structure Responder.Holds (r : Responder) (image : Image) (n j : Nat) : Prop where
  rlen_eq : r.rlen.toNat = 8 * n
  rcount_eq : r.rcount.toNat = 8 * min j n
  rcrc_eq : r.rcrc = crcOver (image.paddedBytes 0 (8 * min j n)) 0
  rstate_eq : r.rstate = targetState n j

/-- A responder at the session's board that checks the CRC and has acted on the first `k` commands;
before START it may hold anything. -/
structure Responder.Progress (r : Responder) (board : Board) (image : Image) (n k : Nat) : Prop where
  me_eq : r.me = board
  policy_eq : r.policy = .crcCheck
  holds : ∀ j, k = j + 1 → r.Holds image n j

/-- The responder answers the `k`-th command as R220's target does, and has then acted on it. -/
def Responder.Complies (r : Responder) (react : Responder → Responder × Option Frame) (board : Board)
    (image : Image) (n k : Nat) : Prop :=
  ∃ r' reply, react r = (r', some reply) ∧ r'.Progress board image n (k + 1) ∧
    isCompliant n k (.frame reply) = true

theorem isCompliant_report {n k : Nat} {r : Responder} {sub status : Byte}
    (hsub : sub = replySubcode n k) (hstatus : k = n + 1 → status = 1) :
    isCompliant n k (.frame (r.report sub status)) = true := by
  have hcode : decodeCode (r.report sub status).id = Config.codeReport := decodeCode_encodeId _ _
  have hlast : k ≠ n + 1 ∨ reportStatus (r.report sub status).data = 1 :=
    (em (k = n + 1)).symm.imp id hstatus
  simp only [isCompliant, Bool.and_eq_true, Bool.or_eq_true, decide_eq_true_eq]
  exact ⟨⟨⟨hcode, rfl⟩, hsub⟩, hlast⟩

namespace Responder.Progress

variable {r : Responder} {board : Board} {image : Image} {n : Nat}

/-- The registers alone say how far the responder is, so a reaction that leaves its parameters makes
progress when it leaves the right registers. -/
theorem of_holds {r' : Responder} {k j : Nat} (h : r.Progress board image n k) (hme : r'.me = r.me)
    (hpolicy : r'.policy = r.policy) (hj : r'.Holds image n j) : r'.Progress board image n (j + 1) where
  me_eq := hme.trans h.me_eq
  policy_eq := hpolicy.trans h.policy_eq
  holds := fun i hi => by
    obtain rfl : j = i := Nat.succ.inj hi
    exact hj

theorem onStart (h : r.Progress board image n 0) (hfits : 8 * n ≤ 65535) :
    r.Complies (Responder.onStart (BitVec.ofNat 16 (8 * n))) board image n 0 := by
  have hlen : (BitVec.ofNat 16 (8 * n)).toNat = 8 * n := by
    rw [BitVec.toNat_ofNat, Nat.mod_eq_of_lt (by omega)]
  have hzero : BitVec.ofNat 16 (8 * n) = 0 ↔ n = 0 := by
    rw [← BitVec.toNat_inj, hlen]
    simp
  refine ⟨_, _, Responder.onStart_of_chunks (by omega), h.of_holds rfl rfl ⟨hlen, ?_, ?_, ?_⟩,
    isCompliant_report ?_ ?_⟩
  · simp
  · simp [Image.paddedBytes, crcOver]
  · simp only [hzero, targetState]
    obtain rfl | hpos := Nat.eq_zero_or_pos n
    · rfl
    · rw [if_neg hpos.ne', if_pos hpos]
  · simp [replySubcode]
  · simp

/-- The target folds the chunks as CBU folds them before it sends them. -/
theorem onData {j : Nat} (h : r.Progress board image n (j + 1)) (hj : j < n) (hfits : 8 * n ≤ 65535) :
    r.Complies (Responder.onData (image.paddedBytes (8 * j) 8)) board image n (j + 1) := by
  obtain ⟨hlen, hcount, hcrc, hstate⟩ := h.holds j rfl
  rw [Nat.min_eq_left hj.le] at hcount hcrc
  have hrecv : r.rstate = .receiving := hstate.trans (if_pos hj)
  have hmin : min (j + 1) n = j + 1 := Nat.min_eq_left hj
  have hcount' : (r.rcount + 8).toNat = 8 * min (j + 1) n := by
    rw [hmin]
    bv_omega
  have hcrc' : crcOver (image.paddedBytes (8 * j) 8) r.rcrc =
      crcOver (image.paddedBytes 0 (8 * min (j + 1) n)) 0 := by
    rw [hcrc, crcOver_next_chunk, hmin]
  have hlast : r.rcount + 8 = r.rlen ↔ j + 1 = n := by
    rw [← BitVec.toNat_inj, hcount', hlen, hmin]
    omega
  by_cases hn : j + 1 = n
  · refine ⟨_, _, Responder.onData_of_last hrecv (hlast.2 hn),
      h.of_holds rfl rfl ⟨hlen, hcount', hcrc', ?_⟩, isCompliant_report ?_ ?_⟩
    · simp [targetState, hn]
    · rw [replySubcode, if_neg (by omega), if_pos ⟨hn, j.succ_ne_zero⟩]
    · omega
  · refine ⟨_, _, Responder.onData_of_more hrecv (mt hlast.1 hn),
      h.of_holds rfl rfl ⟨hlen, hcount', hcrc', ?_⟩, isCompliant_report ?_ ?_⟩
    · exact hrecv.trans (if_pos (by omega)).symm
    · rw [replySubcode, if_neg (by omega), if_neg (by omega)]
    · omega

/-- At STOP both sides have folded the whole image, so the two CRCs agree. -/
theorem onStop (h : r.Progress board image n (n + 1)) :
    r.Complies (Responder.onStop (crcOver (image.paddedBytes 0 (8 * n)) 0)) board image n (n + 1) := by
  obtain ⟨hlen, hcount, hcrc, hstate⟩ := h.holds n rfl
  have hfull : r.rstate = .full := by simp [hstate, targetState]
  have hmin : min (n + 1) n = min n n := by omega
  refine ⟨_, _, Responder.onStop_of_full hfull,
    h.of_holds rfl rfl ⟨hlen, hmin ▸ hcount, hmin ▸ hcrc, ?_⟩, isCompliant_report ?_ ?_⟩
  · simp [targetState]
  · simp [replySubcode]
  · intro _
    rw [Responder.finalStatus_eq, if_neg]
    simp [hcrc]

end Responder.Progress

/-! ## The session's commands at a lone target -/

section Commands

variable {board : Board} {image : Image} {n k : Nat} {f : Frame}

theorem sessionFrames_wf (h : f ∈ sessionFrames board image n) : f.wf = true := by
  simp only [sessionFrames, Image.chunks, List.mem_append, List.mem_singleton, List.mem_map] at h
  obtain (rfl | ⟨_, ⟨j, -, rfl⟩, rfl⟩) | rfl := h
  · rfl
  · simp [Frame.wf, buildData]
  · rfl

/-- The `k`-th command of a session is START, the next chunk's DATA, or STOP. -/
theorem sessionFrames_cases (h : (sessionFrames board image n)[k]? = some f) :
    (k = 0 ∧ f = buildStart board (BitVec.ofNat 16 (8 * n))) ∨
      (∃ j < n, k = j + 1 ∧ f = buildData board (image.paddedBytes (8 * j) 8)) ∨
        (k = n + 1 ∧ f = buildStop board (crcOver (image.paddedBytes 0 (8 * n)) 0)) := by
  have hk : k < n + 2 := by
    rw [← sessionFrames_length board image n]
    exact (List.getElem?_eq_some_iff.1 h).1
  cases k with
  | zero => exact .inl ⟨rfl, (Option.some.inj h).symm⟩
  | succ j =>
    obtain hj | rfl : j < n ∨ j = n := by omega
    · have hdata : (sessionFrames board image n)[j + 1]? =
          some (buildData board (image.paddedBytes (8 * j) 8)) := by
        simp [sessionFrames, Image.chunks, List.getElem?_append, hj]
      exact .inr (.inl ⟨j, hj, rfl, Option.some.inj (h.symm.trans hdata)⟩)
    · have hstop : (sessionFrames board image j)[j + 1]? =
          some (buildStop board (crcOver (image.paddedBytes 0 (8 * j)) 0)) := by
        simp [sessionFrames, Image.chunks]
      exact .inr (.inr ⟨rfl, Option.some.inj (h.symm.trans hstop)⟩)

theorem targetReceive_of_complies {s : State} {r : Responder}
    {react : Responder → Responder × Option Frame} (ht : s.targets = [r]) (hme : r.me = board)
    (h : r.Complies react board image n k)
    (hf : targetReceive f s = .next (s.targetsReact board react)) :
    ∃ r' reply,
      targetReceive f s = .next { s with targets := [r'], toHost := s.toHost ++ [reply] } ∧
        r'.Progress board image n (k + 1) ∧ isCompliant n k (.frame reply) = true := by
  obtain ⟨r', reply, hreact, hr', hreply⟩ := h
  exact ⟨r', reply, hf.trans (by rw [State.targetsReact_lone ht hme hreact]), hr', hreply⟩

/-- A lone target that has acted on the commands before the `k`-th complies with it. -/
theorem targetReceive_command {s : State} {r : Responder}
    (hf : (sessionFrames board image n)[k]? = some f) (hfits : 8 * n ≤ 65535)
    (ht : s.targets = [r]) (hr : r.Progress board image n k) :
    ∃ r' reply,
      targetReceive f s = .next { s with targets := [r'], toHost := s.toHost ++ [reply] } ∧
        r'.Progress board image n (k + 1) ∧ isCompliant n k (.frame reply) = true := by
  obtain ⟨rfl, rfl⟩ | ⟨j, hj, rfl, rfl⟩ | ⟨rfl, rfl⟩ := sessionFrames_cases hf
  · exact targetReceive_of_complies ht hr.me_eq (hr.onStart hfits) (targetReceive_buildStart _ _ _)
  · exact targetReceive_of_complies ht hr.me_eq (hr.onData hj hfits)
      (targetReceive_buildData _ _ (image.paddedBytes_length _ _))
  · exact targetReceive_of_complies ht hr.me_eq hr.onStop (targetReceive_buildStop _ _ _)

end Commands

/-! ## One exchange: a command's delivery, then its reply -/

/-- The event that a step finds, wherever it comes from, acts as if it were the next input. -/
theorem step_of_event {s s' : State} {e : Event} (h : s.nextEvent = some (e, s')) :
    step s = step { s' with inputs := e :: s'.inputs } := by
  have hfetch : fetch s = fetch { s' with inputs := e :: s'.inputs } :=
    (fetch_of_nextEvent h).trans (fetch_of_inputs (s := { s' with inputs := e :: s'.inputs }) rfl).symm
  simp only [step, hfetch]

/-- With no input left the oldest frame in flight is delivered. -/
theorem step_of_toTarget {s : State} {f : Frame} {fs : List Frame} (hi : s.inputs = [])
    (ht : s.toTarget = f :: fs) (hwf : f.wf = true) :
    step s = targetReceive f (State.takeDelivery { s with toTarget := fs } f []) := by
  rw [step_of_event (State.nextEvent_of_toTarget hi ht), hi]
  exact step_of_deliver rfl hwf

/-- Nothing comes from outside, one responder is on the bus, and only these frames are in flight. -/
structure State.Closed (s : State) (toTarget toHost : List Frame) (r : Responder) : Prop where
  inputs_eq : s.inputs = []
  toTarget_eq : s.toTarget = toTarget
  toHost_eq : s.toHost = toHost
  unread_eq : s.unread = []
  targets_eq : s.targets = [r]

section Exchange

variable {board : Board} {image : Image} {n k : Nat} {before : List Frame} {s : State}

/-- In the closed system the session's `k`-th command is in flight to the target. -/
def State.CommandInFlight (s : State) (board : Board) (image : Image) (n : Nat) (before : List Frame)
    (k : Nat) : Prop :=
  s.AtWait board image n before k ∧ ∃ f r, (sessionFrames board image n)[k]? = some f ∧
    s.Closed [f] [] r ∧ r.Progress board image n k

/-- In the closed system a compliant reply to the `k`-th command is in flight to CBU. -/
def State.ReplyInFlight (s : State) (board : Board) (image : Image) (n : Nat) (before : List Frame)
    (k : Nat) : Prop :=
  s.AtWait board image n before k ∧ ∃ f r, isCompliant n k (.frame f) = true ∧
    s.Closed [] [f] r ∧ r.Progress board image n (k + 1)

/-- A delivery is no frame that CBU sends. -/
theorem State.AtWait.takeDelivery (h : s.AtWait board image n before k) (f : Frame)
    (rest : List Event) : (s.takeDelivery f rest).AtWait board image n before k :=
  { h with
    sent_eq := by
      rw [State.sent_of_trace (s := s) rfl, ← h.sent_eq]
      exact List.append_nil _ }

/-- What the bus holds is no part of a wait. -/
theorem State.AtWait.withBus (h : s.AtWait board image n before k) (ins : List Event)
    (toTarget toHost : List Frame) (targets : List Responder) :
    State.AtWait
      { s with inputs := ins, toTarget := toTarget, toHost := toHost, targets := targets }
      board image n before k :=
  { h with }

theorem State.CommandInFlight.step (h : s.CommandInFlight board image n before k)
    (hfits : 8 * n ≤ 65535) : ∃ t, step s = .next t ∧ t.ReplyInFlight board image n before k := by
  obtain ⟨hwait, f, r, hf, ⟨hinputs, htoTarget, htoHost, hunread, htargets⟩, hr⟩ := h
  have hwf : f.wf = true := sessionFrames_wf (List.mem_of_getElem? hf)
  have htaken := (hwait.withBus s.inputs [] s.toHost s.targets).takeDelivery f []
  obtain ⟨r', reply, hreact, hr', hreply⟩ := targetReceive_command
    (s := State.takeDelivery { s with toTarget := [] } f []) hf hfits htargets hr
  refine ⟨_, (step_of_toTarget hinputs htoTarget hwf).trans hreact, htaken.withBus _ _ _ _, reply, r',
    hreply, ⟨rfl, rfl, ?_, hunread, rfl⟩, hr'⟩
  exact congrArg (· ++ [reply]) htoHost

/-- In the waits before the last one an accepted report makes CBU send, and it writes no more than the
registers of RX. -/
theorem State.AtWait.onReport_sends (h : s.AtWait board image n before k) (hk : k ≤ n)
    {data : List Byte} {t : State} (ht : s.onReport data = .next t) :
    ∃ f, t.eraseRx = (s.send f).eraseRx := by
  obtain rfl | h0 := eq_or_ne k 0
  · rw [State.onReport_of_starting h.state_eq] at ht
    exact State.advance_sends ht
  · rw [State.onReport_of_transferring (h.state_eq.trans (waitState_of_data h0 hk))] at ht
    exact State.advance_sends (s := { s with offset := s.offset + 8 }) ht

/-- The frame sent between two waits is the session's next command. -/
theorem State.AtWait.command_of_sends {t : State} {f : Frame}
    (hs : s.AtWait board image n before k) (ht : t.AtWait board image n before (k + 1))
    (h : t.sent = s.sent ++ [f]) : (sessionFrames board image n)[k + 1]? = some f := by
  rw [ht.sent_eq, hs.sent_eq, List.take_add_one, ← List.append_assoc] at h
  exact Option.toList_eq_singleton_iff.1 (List.append_cancel_left h)

/-- The reply in flight is the outcome of CBU's wait. -/
theorem State.ReplyInFlight.receive (h : s.ReplyInFlight board image n before k) (hk : k ≤ n + 1) :
    ∃ (u : State) (data : List Byte) (r : Responder),
      step s = u.onReport data ∧ (k = n + 1 → reportStatus data = 1) ∧
      u.AtWait board image n before k ∧ u.Closed [] [] r ∧ r.Progress board image n (k + 1) := by
  obtain ⟨hwait, f, r, hreply, ⟨hinputs, htoTarget, htoHost, hunread, htargets⟩, hr⟩ := h
  have hwaiting : s.waiting = true := State.waiting_iff.2 (.inl hwait.isWait)
  have hstep := step_of_event (State.nextEvent_of_reply hinputs htoTarget hwaiting hunread htoHost)
  have hrx := hwait.withBus (.rx (.frame f) :: s.inputs) s.toTarget [] s.targets
  obtain ⟨data, hdata, hstatus⟩ := hrx.step_of_compliant hk rfl hreply
  exact ⟨_, data, r, hstep.trans hdata, hstatus, hrx.takeRx _ _,
    ⟨hinputs, htoTarget, rfl, hunread, htargets⟩, hr⟩

theorem State.ReplyInFlight.step (h : s.ReplyInFlight board image n before k) (hk : k ≤ n) :
    ∃ t, step s = .next t ∧ t.CommandInFlight board image n before (k + 1) := by
  obtain ⟨u, data, r, hstep, -, hu, hclosed, hr⟩ := h.receive (by omega)
  obtain ⟨t, ht, hnext, -⟩ := hu.onReport hk data
  obtain ⟨f, herase⟩ := hu.onReport_sends hk ht
  have hsent : t.sent = u.sent ++ [f] :=
    (congrArg State.sent herase).trans
      (State.sent_of_trace (t := u.send f) (lines := [.sent f]) rfl)
  refine ⟨t, hstep.trans ht, hnext, f, r, hu.command_of_sends hnext hsent, ?closed, hr⟩
  exact
    { inputs_eq := (congrArg State.inputs herase).trans hclosed.inputs_eq
      toTarget_eq := (congrArg State.toTarget herase).trans (congrArg (· ++ [f]) hclosed.toTarget_eq)
      toHost_eq := congrArg State.toHost herase
      unread_eq := (congrArg State.unread herase).trans
        (congrArg₂ (· ++ ·) hclosed.unread_eq hclosed.toHost_eq)
      targets_eq := (congrArg State.targets herase).trans hclosed.targets_eq }

/-- `j` exchanges take `2 * j` steps; `m` more go on from there. -/
theorem State.CommandInFlight.run (hfits : 8 * n ≤ 65535) (m j : Nat) :
    ∀ {k : Nat} {s : State}, s.CommandInFlight board image n before k → k + j ≤ n + 1 →
      ∃ t, Sys2Proof.core.run (2 * j + m) s = Sys2Proof.core.run m t ∧
        t.CommandInFlight board image n before (k + j) := by
  induction j with
  | zero => exact fun {k s} h _ => ⟨s, by rw [Nat.mul_zero, Nat.zero_add], h⟩
  | succ j ih =>
    intro k s h hk
    obtain ⟨u, hdeliver, hu⟩ := h.step hfits
    obtain ⟨v, hreceive, hv⟩ := hu.step (by omega)
    obtain ⟨t, hrun, ht⟩ := ih hv (by omega)
    have hsteps : 2 * (j + 1) + m = 2 * j + m + 1 + 1 := by omega
    rw [hsteps, run_of_step hdeliver, run_of_step hreceive, hrun]
    exact ⟨t, rfl, by rwa [Nat.add_right_comm, Nat.add_assoc] at ht⟩

end Exchange

/-- Settles O59: LOAD puts START in flight, `n + 1` exchanges bring the session to STOP, and STOP's
exchange ends it; the target then holds the whole image. -/
theorem closedSystemSucceeds : Obligations.ClosedSystemSucceeds := by
  intro s board image n r hq had hn _ htargets hme hpolicy htoTarget htoHost hunread hinputs
  have hfits : 8 * n ≤ 65535 := by
    obtain ⟨-, -, -, hfits, -⟩ := had
    omega
  have hopen : (s.openSession board image []).CommandInFlight (BitVec.ofNat 4 board) image n s.sent 0 :=
    ⟨State.atWait_of_openSession [] hn hfits, _, r, rfl,
      { inputs_eq := rfl
        toTarget_eq := by simp [State.openSession, htoTarget, hn]
        toHost_eq := rfl
        unread_eq := by simp [State.openSession, htoHost, hunread]
        targets_eq := htargets },
      ⟨hme, hpolicy, fun j hj => by omega⟩⟩
  obtain ⟨t, hrun, ht⟩ := hopen.run hfits 2 (n + 1) (by omega)
  rw [Nat.zero_add] at ht
  obtain ⟨u, hdeliver, hu⟩ := ht.step hfits
  obtain ⟨v, data, r', hreceive, hstatus, hwait, hclosed, hr'⟩ := hu.receive le_rfl
  obtain ⟨-, hcount, hcrc, -⟩ := hr'.holds (n + 1) rfl
  have hcrcs : v.crc = r'.rcrc := hwait.crc_eq.trans hcrc.symm
  rw [Nat.min_eq_right n.le_succ] at hcount hcrc
  rw [State.onReport_of_finishing (hwait.state_eq.trans (waitState_of_stop n)), if_pos (hstatus rfl)]
    at hreceive
  have hload := run_of_step (step_load_of_admitted hinputs hq had) (2 * (n + 1) + 2)
  have hstop := (run_of_step hdeliver 1).trans (run_of_step hreceive 0)
  exact ⟨_, r', hload.trans (hrun.trans hstop), rfl, hwait.len_eq, hcrcs.trans hcrc,
    hclosed.targets_eq, hcrcs.symm, BitVec.eq_of_toNat_eq (hcount.trans hwait.len_eq.symm)⟩

end Sys2Proof.Machine
end

section
/-! The proofs of the family 60_exceptions: what a step that enters Failed leaves behind (R310), and the
channel handle (R322). Every failing rule is shown once to write the failure information and nothing
else (`State.FailsTo`), and every other rule not to enter Failed. -/

namespace Sys2Proof.Machine

/-! ## The channel handle (60_exceptions R322) -/

/-- Settles O60: the event is acted on in the state whose trace already shows it. -/
theorem openingGivesTheChannelHandle : Obligations.OpeningGivesTheChannelHandle :=
  fun _ _ _ hi => step_of_fetch_acted (fetch_of_inputs hi)

/-! ## What a failing rule writes (60_exceptions R310) -/

/-- From `s` to `t` the session fails: beside STATE, only the failure information, STATUS and the port
of the step's frame may differ. -/
structure State.FailsTo (s t : State) : Prop where
  cause_ne : t.cause ≠ .none
  fstate_eq : t.fstate = s.state
  frame : t =
    { s with
      state := t.state, cause := t.cause, fstate := t.fstate, expected := t.expected
      actual := t.actual, status := t.status, nrkind := t.nrkind, presub := t.presub
      port := t.port }

theorem State.FailsTo.keeps_session {s t : State} (h : s.FailsTo t) :
    t.board = s.board ∧ t.len = s.len ∧ t.crc = s.crc ∧ t.offset = s.offset ∧ t.img = s.img := by
  rw [h.frame]
  exact ⟨rfl, rfl, rfl, rfl, rfl⟩

theorem State.FailsTo.sends_nothing {s t : State} (h : s.FailsTo t) :
    t.sent = s.sent ∧ t.toTarget = s.toTarget := by
  rw [h.frame]
  exact ⟨rfl, rfl⟩

theorem State.rejectReport_failsTo {v : Verdict} (hv : v.isFailure = true) (exp : Byte) (s : State) :
    s.FailsTo (s.rejectReport v exp) := by
  obtain ⟨_, _, _, _, hcause, hreject⟩ := State.rejectReport_failed hv exp s
  rw [hreject]
  exact ⟨hcause, rfl, rfl⟩

/-! ## Every step into Failed is one of these -/

section Receive

variable {o : RxOutcome} {s t : State}

theorem State.advance_not_failed (h : s.advance = .next t) : t.state ≠ .failed := by
  obtain ⟨-, rfl⟩ | ⟨-, -, rfl⟩ := State.advance_next h <;> simp

theorem rxStarting_failsTo (h : rxStarting o s = .next t) (ht : t.state = .failed) :
    s.FailsTo t := by
  obtain ⟨-, hadv⟩ | ⟨hfail, rfl⟩ := rxStarting_next h
  · exact absurd ht (State.advance_not_failed hadv)
  · exact State.rejectReport_failsTo hfail _ s

/-- OFFSET is written after CHECK, so a failed CHECK keeps it. -/
theorem rxTransferring_failsTo (h : rxTransferring o s = .next t) (ht : t.state = .failed) :
    s.FailsTo t := by
  obtain ⟨-, hadv⟩ | ⟨hfail, rfl⟩ := rxTransferring_next h
  · exact absurd ht (State.advance_not_failed hadv)
  · exact State.rejectReport_failsTo hfail _ s

theorem rxFinishing_failsTo (h : rxFinishing o s = .next t) (ht : t.state = .failed) :
    s.FailsTo t := by
  obtain ⟨_, -, ⟨-, rfl⟩ | ⟨-, rfl⟩⟩ | ⟨hfail, rfl⟩ := rxFinishing_next h
  · cases ht
  · exact ⟨by simp, rfl, rfl⟩
  · exact State.rejectReport_failsTo hfail _ s

/-- Only USQ fails a session: an outcome that DSQ consumes leaves STATE as it is. -/
theorem hostReceive_failsTo (h : hostReceive o s = .next t) (hs : s.state ≠ .failed)
    (ht : t.state = .failed) : s.FailsTo t := by
  obtain ⟨-, hup⟩ | ⟨-, hdsq⟩ := hostReceive_next h
  · obtain ⟨-, hrx⟩ | ⟨-, hrx⟩ | ⟨-, hrx⟩ := uploadReceive_next hup
    · exact rxStarting_failsTo hrx ht
    · exact rxTransferring_failsTo hrx ht
    · exact rxFinishing_failsTo hrx ht
  · obtain ⟨-, ⟨_, rfl⟩ | ⟨_, _, rfl⟩⟩ := discoveryReceive_next hdsq <;> exact absurd ht hs

/-- LOAD fails before it creates the session. -/
theorem load_failsTo {board : Nat} {image : Image} (h : load board image s = .next t)
    (ht : t.state = .failed) : s.FailsTo t := by
  obtain ⟨-, -, -, ⟨_, -, rfl⟩ | ⟨-, rfl⟩⟩ := load_next h
  · exact ⟨by simp, rfl, rfl⟩
  · cases ht

end Receive

/-- The port does not count in a failure, so the state before the frame's arrival fails alike. -/
theorem State.FailsTo.of_atPort {s t : State} {p : Port} (h : (s.atPort p).FailsTo t) : s.FailsTo t :=
  ⟨h.cause_ne, h.fstate_eq, h.frame⟩

/-- An event that enters Failed is a LOAD, an ABORT or an outcome, never a delivery. -/
theorem ActsTo.failsTo {s t : State} {e : Event} (h : ActsTo s e t) (hs : s.state ≠ .failed)
    (ht : t.state = .failed) : s.FailsTo t ∧ ∀ f, e ≠ .deliver f := by
  cases h with
  | load h => exact ⟨load_failsTo h ht, by simp⟩
  | scan h => obtain ⟨-, -, -, rfl⟩ := scan_next h; exact absurd ht hs
  | ping h => obtain ⟨-, -, -, -, rfl⟩ := pingBoard_next h; exact absurd ht hs
  | abort h => obtain ⟨-, rfl⟩ := abort_next h; exact ⟨⟨by simp, rfl, rfl⟩, by simp⟩
  | release h =>
    obtain ⟨-, rfl⟩ | ⟨-, rfl⟩ := release_next h
    · cases ht
    · exact absurd ht hs
  | openChannel => exact absurd ht hs
  | timeout h => exact ⟨hostReceive_failsTo h hs ht, by simp⟩
  | received h => exact ⟨(hostReceive_failsTo h hs ht).of_atPort, by simp⟩
  | ignored => exact absurd ht hs
  | delivered => exact absurd ht hs

/-! ## The step as a whole -/

/-- Of the events only a delivery takes a frame from those in flight to the targets. -/
theorem State.nextEvent_toTarget {s s' : State} {e : Event} (h : s.nextEvent = some (e, s'))
    (he : ∀ f, e ≠ .deliver f) : s'.toTarget = s.toTarget := by
  unfold State.nextEvent at h
  split at h
  · cases h
    rfl
  split at h
  · rename_i f rest _
    cases h
    exact absurd rfl (he f)
  split at h
  · cases h
    obtain ⟨_, _, _, hchannel⟩ := s.channelOutcome_snd s.unread s.freeCount
    rw [hchannel]
  · cases h

/-- Settles O53: taking the event keeps the registers and the frames in flight, its line in the trace is
no frame, and the failure writes none of them; the registers stay even where no session was under way. -/
theorem failureIsPrecise : Obligations.FailureIsPrecise := by
  intro s t h hs ht
  obtain ⟨-, rfl⟩ | ⟨e, s', hnext, hact⟩ := step_next h
  · exact absurd ht hs
  obtain ⟨_, _, _, _, _, rfl⟩ := State.nextEvent_some hnext
  obtain ⟨hfails, hdeliver⟩ := hact.failsTo hs ht
  obtain ⟨hsent, hflight⟩ := hfails.sends_nothing
  have htaken := State.nextEvent_toTarget hnext hdeliver
  exact ⟨hfails.cause_ne, hfails.fstate_eq, hsent.trans (State.log_event_sent e _),
    hflight.trans htaken, fun _ => hfails.keeps_session⟩

end Sys2Proof.Machine
end
